-- ==== Sys2Proof/Word.lean ====
section
/-! DEFINITION. The word types of the RX CPU (spec/00_scope.md R6, spec/20_memory.md R81). -/

namespace Sys2Proof

/-- A byte, bits b7 to b0 (R6). -/
abbrev Byte := BitVec 8

/-- A longword: a general register, a control register, an address (R21, R27, R80). -/
abbrev Word := BitVec 32

end Sys2Proof
end

