-- ==== Sys2Proof/Config.lean ====
section
/-! DEFINITION. What a product fixes (spec/00_scope.md R5) and the values the spec leaves undefined
(spec/93_implementation_defined.md section 1). -/

namespace Sys2Proof

/-- The kind of a memory access, as mem_fault sees it (spec/20_memory.md R96). -/
inductive AccessKind where
  | fetch
  | read
  | write
  deriving DecidableEq, Repr

/-- One clause of the platform's predicate mem_fault(addr, n, kind, PM) (R96, D11): it holds of the accesses
of this kind and mode whose address lies between `first` and `last`, of width `width` where one is given.
DESIGN CHOICE (log entry 6): every predicate over the finite address space is a finite list of such clauses. -/
structure FaultClause where
  first : Word
  last  : Word
  width : Option Nat
  kind  : AccessKind
  user  : Bool
  deriving DecidableEq, Repr

/-- Whether the access is one the clause names. -/
def FaultClause.covers (c : FaultClause) (a : Word) (n : Nat) (kind : AccessKind) (user : Bool) : Bool :=
  c.first ≤ a && a ≤ c.last && c.width.all (· == n) && c.kind == kind && c.user == user

/-- The implementation parameters of R5, constant during execution (R82, D1, D6, D11, D20; log entry 5). -/
structure Product where
  /-- Data in memory is big endian (R82). -/
  bigEndian : Bool
  /-- The floating-point instructions are installed (R47, D6). -/
  hasFpu : Bool
  /-- The memory-protection unit is present (R95, R96). -/
  hasMpu : Bool
  /-- ipl_width = 3, the RX610 group; false is ipl_width = 4 (R30, R32). -/
  ipl3 : Bool
  /-- MVTIPL is installed (R544, D20). -/
  hasMvtipl : Bool
  /-- The clauses of mem_fault, which count only where `hasMpu` is true (R96). -/
  faults : List FaultClause
  deriving DecidableEq, Repr

/-- mem_fault of R96: constantly false where there is no memory-protection unit. -/
def Product.memFault (p : Product) (a : Word) (n : Nat) (kind : AccessKind) (user : Bool) : Bool :=
  p.hasMpu && p.faults.any (·.covers a n kind user)

/-- The product State.reset describes. DESIGN CHOICE (log entry 5): the spec leaves each of these open;
these are the ones its own test vectors take. -/
def Product.default : Product :=
  { bigEndian := false, hasFpu := true, hasMpu := false, ipl3 := false, hasMvtipl := true, faults := [] }

/-- The k-th 32-bit value the spec calls undefined (R7 `undefined(32)`, D14): nothing is known of it
(log entry 9). -/
opaque Config.freeWord : Nat → BitVec 32

/-- The k-th 64-bit value the spec calls undefined: ACC after EMUL, EMULU, FMUL, MUL, RMPA (R49; log entry 9). -/
opaque Config.freeAcc : Nat → BitVec 64

end Sys2Proof
end

