-- ==== Sys2Proof/Syntax.lean ====
section
/-! DEFINITION. The instructions: one constructor per row of spec/opcode_table.json, in its order, with the
operands of spec/30_encoding.md R123 to R136 as types. -/

namespace Sys2Proof

/-- A general register number, R0 (the stack pointer) to R15 (R21, R124). -/
abbrev Reg := Fin 16

/-- A register number of the dsp:5 forms, R0 to R7 (R124, R141). -/
abbrev LowReg := Fin 8

/-- Size specifier `sz`: .B, .W, .L (R129). -/
inductive Size where
  | b | w | l
  deriving DecidableEq, Repr

/-- The one-bit size specifier of MOVU: .B, .W (R129). -/
inductive MovuSize where
  | b | w
  deriving DecidableEq, Repr

/-- Memory extension `mi` of the 06 page: .B, .W, .L, .UW (R127). -/
inductive Memex where
  | b | w | l | uw
  deriving DecidableEq, Repr

/-- Displacement of a memory operand (`ld`, `lds`, `ldd`): none, dsp:8 or dsp:16, in units of the access
size (R125, R126). -/
inductive Dsp where
  | none
  | d8 (v : BitVec 8)
  | d16 (v : BitVec 16)
  deriving DecidableEq, Repr

/-- An operand chosen by `ld`: the register itself (11b) or memory at a base register (R125). -/
inductive RegOrMem where
  | reg (r : Reg)
  | mem (base : Reg) (d : Dsp)
  deriving DecidableEq, Repr

/-- The immediates of `li`: #SIMM:8, #SIMM:16, #SIMM:24, #IMM:32 (R128). -/
inductive Simm where
  | s8 (v : BitVec 8)
  | s16 (v : BitVec 16)
  | s24 (v : BitVec 24)
  | i32 (v : BitVec 32)
  deriving DecidableEq, Repr

/-- Condition codes `cd` 0000b to 1101b (R131, R440). -/
inductive Cond where
  | eq | ne | geu | ltu | gtu | leu | pz | n | ge | lt | gt | le | o | no
  deriving DecidableEq, Repr

/-- The one-bit condition of BCnd.S and BCnd.W (R131). -/
inductive EqNe where
  | eq | ne
  deriving DecidableEq, Repr

/-- Control registers `cr` (R27, R133). -/
inductive CReg where
  | psw | pc | usp | fpsw | bpsw | bpc | isp | fintv | intb
  deriving DecidableEq, Repr

/-- Control bits `cb` of SETPSW and CLRPSW (R134). -/
inductive PswBit where
  | c | z | s | o | i | u
  deriving DecidableEq, Repr

/-- Addressing `ad`: [Rn+] or [-Rn] (R106, R107, R130). -/
inductive Auto where
  | postInc | preDec
  deriving DecidableEq, Repr

/-- The instructions of spec/opcode_table.json, one constructor per row. `Rm` forms take a register or a .UB
memory source, `Mx` forms a memory source with `mi`. -/
inductive Instr where
  /-- `ABS Rd`: `01111110 | 0010dddd` (R202). -/
  | absR (rd : Reg)
  /-- `ABS Rs, Rd`: `11111100 | 00001111 | ssssdddd` (R202). -/
  | absRR (rs : Reg) (rd : Reg)
  /-- `ADC #SIMM/#IMM, Rd`: `11111101 | 0111jj00 | 0010dddd +imm(li)` (R203). -/
  | adcImm (imm : Simm) (rd : Reg)
  /-- `ADC Rs, Rd`: `11111100 | 00001011 | ssssdddd` (R203). -/
  | adcRR (rs : Reg) (rd : Reg)
  /-- `ADC.L [Rs]/dsp[Rs], Rd`: `00000110 | 101000ll | 00000010 | ssssdddd +dsp(ld)` (R203). -/
  | adcMem (rs : Reg) (d : Dsp) (rd : Reg)
  /-- `ADD #UIMM:4, Rd`: `01100010 | iiiidddd` (R204). -/
  | addUimm4 (imm : BitVec 4) (rd : Reg)
  /-- `ADD Rs / [Rs].UB / dsp[Rs].UB, Rd`: `010010ll | ssssdddd +dsp(ld)` (R204). -/
  | addRm (src : RegOrMem) (rd : Reg)
  /-- `ADD [Rs].memex / dsp[Rs].memex, Rd (memex B, W, L, UW)`: `00000110 | mm0010ll | ssssdddd +dsp(ld)` (R204). -/
  | addMx (mx : Memex) (rs : Reg) (d : Dsp) (rd : Reg)
  /-- `ADD #SIMM/#IMM, Rs2, Rd (also ADD #SIMM/#IMM, Rd with rs2 = rd)`: `011100jj | ttttdddd +imm(li)` (R204). -/
  | addImm3 (imm : Simm) (rs2 : Reg) (rd : Reg)
  /-- `ADD Rs, Rs2, Rd`: `11111111 | 0010dddd | sssstttt` (R204). -/
  | addRRR (rs : Reg) (rs2 : Reg) (rd : Reg)
  /-- `AND #UIMM:4, Rd`: `01100100 | iiiidddd` (R205). -/
  | andUimm4 (imm : BitVec 4) (rd : Reg)
  /-- `AND #SIMM/#IMM, Rd`: `011101jj | 0010dddd +imm(li)` (R205). -/
  | andImm (imm : Simm) (rd : Reg)
  /-- `AND Rs / [Rs].UB / dsp[Rs].UB, Rd`: `010100ll | ssssdddd +dsp(ld)` (R205). -/
  | andRm (src : RegOrMem) (rd : Reg)
  /-- `AND [Rs].memex / dsp[Rs].memex, Rd (memex B, W, L, UW)`: `00000110 | mm0100ll | ssssdddd +dsp(ld)` (R205). -/
  | andMx (mx : Memex) (rs : Reg) (d : Dsp) (rd : Reg)
  /-- `AND Rs, Rs2, Rd`: `11111111 | 0100dddd | sssstttt` (R205). -/
  | andRRR (rs : Reg) (rs2 : Reg) (rd : Reg)
  /-- `CMP #UIMM:4, Rs2`: `01100001 | iiiitttt` (R206). -/
  | cmpUimm4 (imm : BitVec 4) (rs2 : Reg)
  /-- `CMP #UIMM:8, Rs2`: `01110101 | 0101tttt +imm8` (R206). -/
  | cmpUimm8 (imm : BitVec 8) (rs2 : Reg)
  /-- `CMP #SIMM/#IMM, Rs2`: `011101jj | 0000tttt +imm(li)` (R206). -/
  | cmpImm (imm : Simm) (rs2 : Reg)
  /-- `CMP Rs / [Rs].UB / dsp[Rs].UB, Rs2`: `010001ll | sssstttt +dsp(ld)` (R206). -/
  | cmpRm (src : RegOrMem) (rs2 : Reg)
  /-- `CMP [Rs].memex / dsp[Rs].memex, Rs2 (memex B, W, L, UW)`: `00000110 | mm0001ll | sssstttt +dsp(ld)` (R206). -/
  | cmpMx (mx : Memex) (rs : Reg) (d : Dsp) (rs2 : Reg)
  /-- `DIV #SIMM/#IMM, Rd`: `11111101 | 0111jj00 | 1000dddd +imm(li)` (R207). -/
  | divImm (imm : Simm) (rd : Reg)
  /-- `DIV Rs / [Rs].UB / dsp[Rs].UB, Rd`: `11111100 | 001000ll | ssssdddd +dsp(ld)` (R207). -/
  | divRm (src : RegOrMem) (rd : Reg)
  /-- `DIV [Rs].memex / dsp[Rs].memex, Rd (memex B, W, L, UW)`: `00000110 | mm1000ll | 00001000 | ssssdddd +dsp(ld)` (R207). -/
  | divMx (mx : Memex) (rs : Reg) (d : Dsp) (rd : Reg)
  /-- `DIVU #SIMM/#IMM, Rd`: `11111101 | 0111jj00 | 1001dddd +imm(li)` (R208). -/
  | divuImm (imm : Simm) (rd : Reg)
  /-- `DIVU Rs / [Rs].UB / dsp[Rs].UB, Rd`: `11111100 | 001001ll | ssssdddd +dsp(ld)` (R208). -/
  | divuRm (src : RegOrMem) (rd : Reg)
  /-- `DIVU [Rs].memex / dsp[Rs].memex, Rd (memex B, W, L, UW)`: `00000110 | mm1000ll | 00001001 | ssssdddd +dsp(ld)` (R208). -/
  | divuMx (mx : Memex) (rs : Reg) (d : Dsp) (rd : Reg)
  /-- `EMUL #SIMM/#IMM, Rd`: `11111101 | 0111jj00 | 0110dddd +imm(li)` (R209). -/
  | emulImm (imm : Simm) (rd : Reg)
  /-- `EMUL Rs / [Rs].UB / dsp[Rs].UB, Rd`: `11111100 | 000110ll | ssssdddd +dsp(ld)` (R209). -/
  | emulRm (src : RegOrMem) (rd : Reg)
  /-- `EMUL [Rs].memex / dsp[Rs].memex, Rd (memex B, W, L, UW)`: `00000110 | mm1000ll | 00000110 | ssssdddd +dsp(ld)` (R209). -/
  | emulMx (mx : Memex) (rs : Reg) (d : Dsp) (rd : Reg)
  /-- `EMULU #SIMM/#IMM, Rd`: `11111101 | 0111jj00 | 0111dddd +imm(li)` (R210). -/
  | emuluImm (imm : Simm) (rd : Reg)
  /-- `EMULU Rs / [Rs].UB / dsp[Rs].UB, Rd`: `11111100 | 000111ll | ssssdddd +dsp(ld)` (R210). -/
  | emuluRm (src : RegOrMem) (rd : Reg)
  /-- `EMULU [Rs].memex / dsp[Rs].memex, Rd (memex B, W, L, UW)`: `00000110 | mm1000ll | 00000111 | ssssdddd +dsp(ld)` (R210). -/
  | emuluMx (mx : Memex) (rs : Reg) (d : Dsp) (rd : Reg)
  /-- `MAX #SIMM/#IMM, Rd`: `11111101 | 0111jj00 | 0100dddd +imm(li)` (R211). -/
  | maxImm (imm : Simm) (rd : Reg)
  /-- `MAX Rs / [Rs].UB / dsp[Rs].UB, Rd`: `11111100 | 000100ll | ssssdddd +dsp(ld)` (R211). -/
  | maxRm (src : RegOrMem) (rd : Reg)
  /-- `MAX [Rs].memex / dsp[Rs].memex, Rd (memex B, W, L, UW)`: `00000110 | mm1000ll | 00000100 | ssssdddd +dsp(ld)` (R211). -/
  | maxMx (mx : Memex) (rs : Reg) (d : Dsp) (rd : Reg)
  /-- `MIN #SIMM/#IMM, Rd`: `11111101 | 0111jj00 | 0101dddd +imm(li)` (R212). -/
  | minImm (imm : Simm) (rd : Reg)
  /-- `MIN Rs / [Rs].UB / dsp[Rs].UB, Rd`: `11111100 | 000101ll | ssssdddd +dsp(ld)` (R212). -/
  | minRm (src : RegOrMem) (rd : Reg)
  /-- `MIN [Rs].memex / dsp[Rs].memex, Rd (memex B, W, L, UW)`: `00000110 | mm1000ll | 00000101 | ssssdddd +dsp(ld)` (R212). -/
  | minMx (mx : Memex) (rs : Reg) (d : Dsp) (rd : Reg)
  /-- `MUL #UIMM:4, Rd`: `01100011 | iiiidddd` (R213). -/
  | mulUimm4 (imm : BitVec 4) (rd : Reg)
  /-- `MUL #SIMM/#IMM, Rd`: `011101jj | 0001dddd +imm(li)` (R213). -/
  | mulImm (imm : Simm) (rd : Reg)
  /-- `MUL Rs / [Rs].UB / dsp[Rs].UB, Rd`: `010011ll | ssssdddd +dsp(ld)` (R213). -/
  | mulRm (src : RegOrMem) (rd : Reg)
  /-- `MUL [Rs].memex / dsp[Rs].memex, Rd (memex B, W, L, UW)`: `00000110 | mm0011ll | ssssdddd +dsp(ld)` (R213). -/
  | mulMx (mx : Memex) (rs : Reg) (d : Dsp) (rd : Reg)
  /-- `MUL Rs, Rs2, Rd`: `11111111 | 0011dddd | sssstttt` (R213). -/
  | mulRRR (rs : Reg) (rs2 : Reg) (rd : Reg)
  /-- `NEG Rd`: `01111110 | 0001dddd` (R214). -/
  | negR (rd : Reg)
  /-- `NEG Rs, Rd`: `11111100 | 00000111 | ssssdddd` (R214). -/
  | negRR (rs : Reg) (rd : Reg)
  /-- `NOP`: `00000011` (R215). -/
  | nop
  /-- `NOT Rd`: `01111110 | 0000dddd` (R216). -/
  | notR (rd : Reg)
  /-- `NOT Rs, Rd`: `11111100 | 00111011 | ssssdddd` (R216). -/
  | notRR (rs : Reg) (rd : Reg)
  /-- `OR #UIMM:4, Rd`: `01100101 | iiiidddd` (R217). -/
  | orUimm4 (imm : BitVec 4) (rd : Reg)
  /-- `OR #SIMM/#IMM, Rd`: `011101jj | 0011dddd +imm(li)` (R217). -/
  | orImm (imm : Simm) (rd : Reg)
  /-- `OR Rs / [Rs].UB / dsp[Rs].UB, Rd`: `010101ll | ssssdddd +dsp(ld)` (R217). -/
  | orRm (src : RegOrMem) (rd : Reg)
  /-- `OR [Rs].memex / dsp[Rs].memex, Rd (memex B, W, L, UW)`: `00000110 | mm0101ll | ssssdddd +dsp(ld)` (R217). -/
  | orMx (mx : Memex) (rs : Reg) (d : Dsp) (rd : Reg)
  /-- `OR Rs, Rs2, Rd`: `11111111 | 0101dddd | sssstttt` (R217). -/
  | orRRR (rs : Reg) (rs2 : Reg) (rd : Reg)
  /-- `RMPA.size`: `01111111 | 100011zz` (R260). -/
  | rmpa (sz : Size)
  /-- `ROLC Rd`: `01111110 | 0101dddd` (R261). -/
  | rolc (rd : Reg)
  /-- `RORC Rd`: `01111110 | 0100dddd` (R262). -/
  | rorc (rd : Reg)
  /-- `ROTL #IMM:5, Rd`: `11111101 | 0110111i | iiiidddd` (R263). -/
  | rotlImm (imm : BitVec 5) (rd : Reg)
  /-- `ROTL Rs, Rd`: `11111101 | 01100110 | ssssdddd` (R263). -/
  | rotlRR (rs : Reg) (rd : Reg)
  /-- `ROTR #IMM:5, Rd`: `11111101 | 0110110i | iiiidddd` (R264). -/
  | rotrImm (imm : BitVec 5) (rd : Reg)
  /-- `ROTR Rs, Rd`: `11111101 | 01100100 | ssssdddd` (R264). -/
  | rotrRR (rs : Reg) (rd : Reg)
  /-- `SAT Rd`: `01111110 | 0011dddd` (R265). -/
  | sat (rd : Reg)
  /-- `SATR`: `01111111 | 10010011` (R266). -/
  | satr
  /-- `SBB Rs, Rd`: `11111100 | 00000011 | ssssdddd` (R267). -/
  | sbbRR (rs : Reg) (rd : Reg)
  /-- `SBB.L [Rs]/dsp[Rs], Rd`: `00000110 | 101000ll | 00000000 | ssssdddd +dsp(ld)` (R267). -/
  | sbbMem (rs : Reg) (d : Dsp) (rd : Reg)
  /-- `SHAR #IMM:5, Rd`: `0110101i | iiiidddd` (R268). -/
  | sharImm (imm : BitVec 5) (rd : Reg)
  /-- `SHAR Rs, Rd`: `11111101 | 01100001 | ssssdddd` (R268). -/
  | sharRR (rs : Reg) (rd : Reg)
  /-- `SHAR #IMM:5, Rs2, Rd`: `11111101 | 101iiiii | ttttdddd` (R268). -/
  | sharImm3 (imm : BitVec 5) (rs2 : Reg) (rd : Reg)
  /-- `SHLL #IMM:5, Rd`: `0110110i | iiiidddd` (R269). -/
  | shllImm (imm : BitVec 5) (rd : Reg)
  /-- `SHLL Rs, Rd`: `11111101 | 01100010 | ssssdddd` (R269). -/
  | shllRR (rs : Reg) (rd : Reg)
  /-- `SHLL #IMM:5, Rs2, Rd`: `11111101 | 110iiiii | ttttdddd` (R269). -/
  | shllImm3 (imm : BitVec 5) (rs2 : Reg) (rd : Reg)
  /-- `SHLR #IMM:5, Rd`: `0110100i | iiiidddd` (R270). -/
  | shlrImm (imm : BitVec 5) (rd : Reg)
  /-- `SHLR Rs, Rd`: `11111101 | 01100000 | ssssdddd` (R270). -/
  | shlrRR (rs : Reg) (rd : Reg)
  /-- `SHLR #IMM:5, Rs2, Rd`: `11111101 | 100iiiii | ttttdddd` (R270). -/
  | shlrImm3 (imm : BitVec 5) (rs2 : Reg) (rd : Reg)
  /-- `SUB #UIMM:4, Rd`: `01100000 | iiiidddd` (R271). -/
  | subUimm4 (imm : BitVec 4) (rd : Reg)
  /-- `SUB Rs / [Rs].UB / dsp[Rs].UB, Rd`: `010000ll | ssssdddd +dsp(ld)` (R271). -/
  | subRm (src : RegOrMem) (rd : Reg)
  /-- `SUB [Rs].memex / dsp[Rs].memex, Rd (memex B, W, L, UW)`: `00000110 | mm0000ll | ssssdddd +dsp(ld)` (R271). -/
  | subMx (mx : Memex) (rs : Reg) (d : Dsp) (rd : Reg)
  /-- `SUB Rs, Rs2, Rd`: `11111111 | 0000dddd | sssstttt` (R271). -/
  | subRRR (rs : Reg) (rs2 : Reg) (rd : Reg)
  /-- `TST #SIMM/#IMM, Rs2`: `11111101 | 0111jj00 | 1100tttt +imm(li)` (R272). -/
  | tstImm (imm : Simm) (rs2 : Reg)
  /-- `TST Rs / [Rs].UB / dsp[Rs].UB, Rs2`: `11111100 | 001100ll | sssstttt +dsp(ld)` (R272). -/
  | tstRm (src : RegOrMem) (rs2 : Reg)
  /-- `TST [Rs].memex / dsp[Rs].memex, Rs2 (memex B, W, L, UW)`: `00000110 | mm1000ll | 00001100 | sssstttt +dsp(ld)` (R272). -/
  | tstMx (mx : Memex) (rs : Reg) (d : Dsp) (rs2 : Reg)
  /-- `XOR #SIMM/#IMM, Rd`: `11111101 | 0111jj00 | 1101dddd +imm(li)` (R273). -/
  | xorImm (imm : Simm) (rd : Reg)
  /-- `XOR Rs / [Rs].UB / dsp[Rs].UB, Rd`: `11111100 | 001101ll | ssssdddd +dsp(ld)` (R273). -/
  | xorRm (src : RegOrMem) (rd : Reg)
  /-- `XOR [Rs].memex / dsp[Rs].memex, Rd (memex B, W, L, UW)`: `00000110 | mm1000ll | 00001101 | ssssdddd +dsp(ld)` (R273). -/
  | xorMx (mx : Memex) (rs : Reg) (d : Dsp) (rd : Reg)
  /-- `FADD #IMM:32, Rd`: `11111101 | 01110010 | 0010dddd +imm32` (R335). -/
  | faddImm (imm : BitVec 32) (rd : Reg)
  /-- `FADD Rs / [Rs].L / dsp[Rs].L, Rd`: `11111100 | 100010ll | ssssdddd +dsp(ld)` (R335). -/
  | faddRm (src : RegOrMem) (rd : Reg)
  /-- `FCMP #IMM:32, Rs2`: `11111101 | 01110010 | 0001tttt +imm32` (R336). -/
  | fcmpImm (imm : BitVec 32) (rs2 : Reg)
  /-- `FCMP Rs / [Rs].L / dsp[Rs].L, Rs2`: `11111100 | 100001ll | sssstttt +dsp(ld)` (R336). -/
  | fcmpRm (src : RegOrMem) (rs2 : Reg)
  /-- `FDIV #IMM:32, Rd`: `11111101 | 01110010 | 0100dddd +imm32` (R337). -/
  | fdivImm (imm : BitVec 32) (rd : Reg)
  /-- `FDIV Rs / [Rs].L / dsp[Rs].L, Rd`: `11111100 | 100100ll | ssssdddd +dsp(ld)` (R337). -/
  | fdivRm (src : RegOrMem) (rd : Reg)
  /-- `FMUL #IMM:32, Rd`: `11111101 | 01110010 | 0011dddd +imm32` (R338). -/
  | fmulImm (imm : BitVec 32) (rd : Reg)
  /-- `FMUL Rs / [Rs].L / dsp[Rs].L, Rd`: `11111100 | 100011ll | ssssdddd +dsp(ld)` (R338). -/
  | fmulRm (src : RegOrMem) (rd : Reg)
  /-- `FSUB #IMM:32, Rd`: `11111101 | 01110010 | 0000dddd +imm32` (R339). -/
  | fsubImm (imm : BitVec 32) (rd : Reg)
  /-- `FSUB Rs / [Rs].L / dsp[Rs].L, Rd`: `11111100 | 100000ll | ssssdddd +dsp(ld)` (R339). -/
  | fsubRm (src : RegOrMem) (rd : Reg)
  /-- `FTOI Rs / [Rs].L / dsp[Rs].L, Rd`: `11111100 | 100101ll | ssssdddd +dsp(ld)` (R341). -/
  | ftoiRm (src : RegOrMem) (rd : Reg)
  /-- `ROUND Rs / [Rs].L / dsp[Rs].L, Rd`: `11111100 | 100110ll | ssssdddd +dsp(ld)` (R342). -/
  | roundRm (src : RegOrMem) (rd : Reg)
  /-- `ITOF Rs / [Rs].UB / dsp[Rs].UB, Rd`: `11111100 | 010001ll | ssssdddd +dsp(ld)` (R343). -/
  | itofRm (src : RegOrMem) (rd : Reg)
  /-- `ITOF [Rs].memex / dsp[Rs].memex, Rd (memex B, W, L, UW)`: `00000110 | mm1000ll | 00010001 | ssssdddd +dsp(ld)` (R343). -/
  | itofMx (mx : Memex) (rs : Reg) (d : Dsp) (rd : Reg)
  /-- `(1) MOV.size Rs, dsp:5[Rd] (R0 to R7)`: `10zz0ppp | pdddpsss` (R382). -/
  | movStoreD5 (sz : Size) (rs : LowReg) (d : BitVec 5) (rd : LowReg)
  /-- `(2) MOV.size dsp:5[Rs], Rd (R0 to R7)`: `10zz1ppp | pssspddd` (R382). -/
  | movLoadD5 (sz : Size) (d : BitVec 5) (rs : LowReg) (rd : LowReg)
  /-- `(3) MOV.L #UIMM:4, Rd`: `01100110 | iiiidddd` (R382). -/
  | movUimm4 (imm : BitVec 4) (rd : Reg)
  /-- `(4) MOV.size #IMM:8/#UIMM:8, dsp:5[Rd] (R0 to R7)`: `001111zz | pdddpppp +imm8` (R382). -/
  | movImmD5 (sz : Size) (imm : BitVec 8) (d : BitVec 5) (rd : LowReg)
  /-- `(5) MOV.L #UIMM:8, Rd`: `01110101 | 0100dddd +imm8` (R382). -/
  | movUimm8 (imm : BitVec 8) (rd : Reg)
  /-- `(6) MOV.L #SIMM/#IMM, Rd`: `11111011 | ddddjj10 +imm(li)` (R382). -/
  | movImm (imm : Simm) (rd : Reg)
  /-- `(7) MOV.size Rs, Rd`: `11zz1111 | ssssdddd` (R382). -/
  | movRR (sz : Size) (rs : Reg) (rd : Reg)
  /-- `(8) MOV.size #imm, [Rd]/dsp[Rd]`: `111110ll | ddddjjzz +dsp(ld) +imm(li)` (R382). -/
  | movImmMem (sz : Size) (imm : Simm) (rd : Reg) (d : Dsp)
  /-- `(9) MOV.size [Rs]/dsp[Rs], Rd`: `11zz11uu | ssssdddd +dsp(lds)` (R382). -/
  | movLoad (sz : Size) (rs : Reg) (d : Dsp) (rd : Reg)
  /-- `(10) MOV.size [Ri, Rb], Rd`: `11111110 | 01zzxxxx | yyyydddd` (R382). -/
  | movLoadIdx (sz : Size) (ri : Reg) (rb : Reg) (rd : Reg)
  /-- `(11) MOV.size Rs, [Rd]/dsp[Rd] (high nibble rd, low nibble rs)`: `11zzvv11 | ddddssss +dsp(ldd)` (R382). -/
  | movStore (sz : Size) (rs : Reg) (rd : Reg) (d : Dsp)
  /-- `(12) MOV.size Rs, [Ri, Rb]`: `11111110 | 00zzxxxx | yyyyssss` (R382). -/
  | movStoreIdx (sz : Size) (rs : Reg) (ri : Reg) (rb : Reg)
  /-- `(13) MOV.size [Rs]/dsp[Rs], [Rd]/dsp[Rd]`: `11zzvvuu | ssssdddd +dsp(lds) +dsp(ldd)` (R382). -/
  | movMemMem (sz : Size) (rs : Reg) (ds : Dsp) (rd : Reg) (dd : Dsp)
  /-- `(14) MOV.size Rs, [Rd+] (ad 00) / Rs, [-Rd] (ad 01)`: `11111101 | 0010aazz | ddddssss` (R382). -/
  | movStoreAuto (mode : Auto) (sz : Size) (rs : Reg) (rd : Reg)
  /-- `(15) MOV.size [Rs+], Rd (ad 10) / [-Rs], Rd (ad 11)`: `11111101 | 0010aazz | ssssdddd` (R382). -/
  | movLoadAuto (mode : Auto) (sz : Size) (rs : Reg) (rd : Reg)
  /-- `(1) MOVU.size dsp:5[Rs], Rd (R0 to R7; sz 0 B, 1 W)`: `1011zppp | pssspddd` (R383). -/
  | movuLoadD5 (sz : MovuSize) (d : BitVec 5) (rs : LowReg) (rd : LowReg)
  /-- `(2) MOVU.size Rs / [Rs] / dsp[Rs], Rd (sz 0 B, 1 W)`: `01011zll | ssssdddd +dsp(ld)` (R383). -/
  | movuRm (sz : MovuSize) (src : RegOrMem) (rd : Reg)
  /-- `(3) MOVU.size [Ri, Rb], Rd (sz 0 B, 1 W)`: `11111110 | 110zxxxx | yyyydddd` (R383). -/
  | movuLoadIdx (sz : MovuSize) (ri : Reg) (rb : Reg) (rd : Reg)
  /-- `(4) MOVU.size [Rs+], Rd (ad 10) / [-Rs], Rd (ad 11) (sz 0 B, 1 W)`: `11111101 | 0011aa0z | ssssdddd` (R383). -/
  | movuLoadAuto (mode : Auto) (sz : MovuSize) (rs : Reg) (rd : Reg)
  /-- `POP Rd`: `01111110 | 1011dddd` (R384). -/
  | pop (rd : Reg)
  /-- `POPC Rx`: `01111110 | 1110rrrr` (R385). -/
  | popc (cr : CReg)
  /-- `POPM Rd-Rd2`: `01101111 | ddddeeee` (R386). -/
  | popm (rd : Reg) (rd2 : Reg)
  /-- `PUSH.size Rs`: `01111110 | 10zzssss` (R387). -/
  | pushR (sz : Size) (rs : Reg)
  /-- `PUSH.size [Rs]/dsp[Rs]`: `111101ll | ssss10zz +dsp(ld)` (R387). -/
  | pushMem (sz : Size) (rs : Reg) (d : Dsp)
  /-- `PUSHC Rx`: `01111110 | 1100rrrr` (R388). -/
  | pushc (cr : CReg)
  /-- `PUSHM Rs-Rs2`: `01101110 | sssstttt` (R389). -/
  | pushm (rs : Reg) (rs2 : Reg)
  /-- `REVL Rs, Rd`: `11111101 | 01100111 | ssssdddd` (R390). -/
  | revl (rs : Reg) (rd : Reg)
  /-- `REVW Rs, Rd`: `11111101 | 01100101 | ssssdddd` (R391). -/
  | revw (rs : Reg) (rd : Reg)
  /-- `SCCnd.size Rd / [Rd] / dsp[Rd]`: `11111100 | 1101zzll | ddddcccc +dsp(ld)` (R392). -/
  | sccnd (cd : Cond) (sz : Size) (dst : RegOrMem)
  /-- `STNZ #SIMM/#IMM, Rd`: `11111101 | 0111jj00 | 1111dddd +imm(li)` (R393). -/
  | stnz (imm : Simm) (rd : Reg)
  /-- `STZ #SIMM/#IMM, Rd`: `11111101 | 0111jj00 | 1110dddd +imm(li)` (R394). -/
  | stz (imm : Simm) (rd : Reg)
  /-- `XCHG Rs / [Rs].UB / dsp[Rs].UB, Rd`: `11111100 | 010000ll | ssssdddd +dsp(ld)` (R395). -/
  | xchgRm (src : RegOrMem) (rd : Reg)
  /-- `XCHG [Rs].memex / dsp[Rs].memex, Rd (memex B, W, L, UW)`: `00000110 | mm1000ll | 00010000 | ssssdddd +dsp(ld)` (R395). -/
  | xchgMx (mx : Memex) (rs : Reg) (d : Dsp) (rd : Reg)
  /-- `(1) BEQ.S / BNE.S pcdsp:3 (cd 0 EQ, 1 NE)`: `0001cppp` (R441). -/
  | bcndS (c : EqNe) (dist : BitVec 3)
  /-- `(2) BCnd.B pcdsp:8`: `0010cccc +pcdsp8` (R441). -/
  | bcndB (cd : Cond) (disp : BitVec 8)
  /-- `(3) BEQ.W / BNE.W pcdsp:16 (cd 0 EQ, 1 NE)`: `0011101c +pcdsp16` (R441). -/
  | bcndW (c : EqNe) (disp : BitVec 16)
  /-- `(1) BRA.S pcdsp:3`: `00001ppp` (R442). -/
  | braS (dist : BitVec 3)
  /-- `(2) BRA.B pcdsp:8`: `00101110 +pcdsp8` (R442). -/
  | braB (disp : BitVec 8)
  /-- `(3) BRA.W pcdsp:16`: `00111000 +pcdsp16` (R442). -/
  | braW (disp : BitVec 16)
  /-- `(4) BRA.A pcdsp:24`: `00000100 +pcdsp24` (R442). -/
  | braA (disp : BitVec 24)
  /-- `(5) BRA.L Rs`: `01111111 | 0100ssss` (R442). -/
  | braL (rs : Reg)
  /-- `(1) BSR.W pcdsp:16`: `00111001 +pcdsp16` (R443). -/
  | bsrW (disp : BitVec 16)
  /-- `(2) BSR.A pcdsp:24`: `00000101 +pcdsp24` (R443). -/
  | bsrA (disp : BitVec 24)
  /-- `(3) BSR.L Rs`: `01111111 | 0101ssss` (R443). -/
  | bsrL (rs : Reg)
  /-- `JMP Rs`: `01111111 | 0000ssss` (R444). -/
  | jmp (rs : Reg)
  /-- `JSR Rs`: `01111111 | 0001ssss` (R445). -/
  | jsr (rs : Reg)
  /-- `RTS`: `00000010` (R446). -/
  | rts
  /-- `(1) RTSD #UIMM:8`: `01100111 +imm8` (R447). -/
  | rtsd (imm : BitVec 8)
  /-- `(2) RTSD #UIMM:8, Rd-Rd2`: `00111111 | ddddeeee +imm8` (R447). -/
  | rtsdRange (imm : BitVec 8) (rd : Reg) (rd2 : Reg)
  /-- `(1) BCLR #IMM:3, [Rd]/dsp[Rd].B`: `111100ll | dddd1iii +dsp(ld)` (R473). -/
  | bclrImmMem (imm : BitVec 3) (rd : Reg) (d : Dsp)
  /-- `(2) BCLR Rs, [Rd]/dsp[Rd].B`: `11111100 | 011001ll | ddddssss +dsp(ld)` (R473). -/
  | bclrRMem (rs : Reg) (rd : Reg) (d : Dsp)
  /-- `(3) BCLR #IMM:5, Rd`: `0111101i | iiiidddd` (R473). -/
  | bclrImm (imm : BitVec 5) (rd : Reg)
  /-- `(4) BCLR Rs, Rd`: `11111100 | 01100111 | ddddssss` (R473). -/
  | bclrRR (rs : Reg) (rd : Reg)
  /-- `(1) BSET #IMM:3, [Rd]/dsp[Rd].B`: `111100ll | dddd0iii +dsp(ld)` (R476). -/
  | bsetImmMem (imm : BitVec 3) (rd : Reg) (d : Dsp)
  /-- `(2) BSET Rs, [Rd]/dsp[Rd].B`: `11111100 | 011000ll | ddddssss +dsp(ld)` (R476). -/
  | bsetRMem (rs : Reg) (rd : Reg) (d : Dsp)
  /-- `(3) BSET #IMM:5, Rd`: `0111100i | iiiidddd` (R476). -/
  | bsetImm (imm : BitVec 5) (rd : Reg)
  /-- `(4) BSET Rs, Rd`: `11111100 | 01100011 | ddddssss` (R476). -/
  | bsetRR (rs : Reg) (rd : Reg)
  /-- `(1) BTST #IMM:3, [Rs2]/dsp[Rs2].B`: `111101ll | tttt0iii +dsp(ld)` (R477). -/
  | btstImmMem (imm : BitVec 3) (rs2 : Reg) (d : Dsp)
  /-- `(2) BTST Rs, [Rs2]/dsp[Rs2].B`: `11111100 | 011010ll | ttttssss +dsp(ld)` (R477). -/
  | btstRMem (rs : Reg) (rs2 : Reg) (d : Dsp)
  /-- `(3) BTST #IMM:5, Rs2`: `0111110i | iiiitttt` (R477). -/
  | btstImm (imm : BitVec 5) (rs2 : Reg)
  /-- `(4) BTST Rs, Rs2`: `11111100 | 01101011 | ttttssss` (R477). -/
  | btstRR (rs : Reg) (rs2 : Reg)
  /-- `(1) BMCnd #IMM:3, [Rd]/dsp[Rd].B`: `11111100 | 111iiill | ddddcccc +dsp(ld)` (R474). -/
  | bmcndMem (cd : Cond) (imm : BitVec 3) (rd : Reg) (d : Dsp)
  /-- `(2) BMCnd #IMM:5, Rd`: `11111101 | 111iiiii | ccccdddd` (R474). -/
  | bmcndR (cd : Cond) (imm : BitVec 5) (rd : Reg)
  /-- `(1) BNOT #IMM:3, [Rd]/dsp[Rd].B`: `11111100 | 111iiill | dddd1111 +dsp(ld)` (R475). -/
  | bnotImmMem (imm : BitVec 3) (rd : Reg) (d : Dsp)
  /-- `(2) BNOT Rs, [Rd]/dsp[Rd].B`: `11111100 | 011011ll | ddddssss +dsp(ld)` (R475). -/
  | bnotRMem (rs : Reg) (rd : Reg) (d : Dsp)
  /-- `(3) BNOT #IMM:5, Rd`: `11111101 | 111iiiii | 1111dddd` (R475). -/
  | bnotImm (imm : BitVec 5) (rd : Reg)
  /-- `(4) BNOT Rs, Rd`: `11111100 | 01101111 | ddddssss` (R475). -/
  | bnotRR (rs : Reg) (rd : Reg)
  /-- `SCMPU`: `01111111 | 10000011` (R503). -/
  | scmpu
  /-- `SMOVB`: `01111111 | 10001011` (R504). -/
  | smovb
  /-- `SMOVF`: `01111111 | 10001111` (R505). -/
  | smovf
  /-- `SMOVU`: `01111111 | 10000111` (R506). -/
  | smovu
  /-- `SSTR.size`: `01111111 | 100010zz` (R507). -/
  | sstr (sz : Size)
  /-- `SUNTIL.size`: `01111111 | 100000zz` (R508). -/
  | suntil (sz : Size)
  /-- `SWHILE.size`: `01111111 | 100001zz` (R509). -/
  | swhile (sz : Size)
  /-- `SETPSW flag`: `01111111 | 1010bbbb` (R531). -/
  | setpsw (cb : PswBit)
  /-- `CLRPSW flag`: `01111111 | 1011bbbb` (R536). -/
  | clrpsw (cb : PswBit)
  /-- `MVFC Rx, Rd`: `11111101 | 01101010 | rrrrdddd` (R542). -/
  | mvfc (cr : CReg) (rd : Reg)
  /-- `(1) MVTC #SIMM/#IMM, Rx`: `11111101 | 0111jj11 | 0000rrrr +imm(li)` (R543). -/
  | mvtcImm (imm : Simm) (cr : CReg)
  /-- `(2) MVTC Rs, Rx`: `11111101 | 01101000 | ssssrrrr` (R543). -/
  | mvtcR (rs : Reg) (cr : CReg)
  /-- `MVTIPL #IMM:4`: `01110101 | 01110000 | 0000iiii` (R544). -/
  | mvtipl (imm : BitVec 4)
  /-- `BRK`: `00000000` (R546). -/
  | brk
  /-- `INT #IMM:8`: `01110101 | 01100000 +imm8` (R547). -/
  | int (imm : BitVec 8)
  /-- `RTE`: `01111111 | 10010101` (R550). -/
  | rte
  /-- `RTFI`: `01111111 | 10010100` (R551). -/
  | rtfi
  /-- `WAIT`: `01111111 | 10010110` (R556). -/
  | wait
  /-- `MACHI Rs, Rs2`: `11111101 | 00000100 | sssstttt` (R571). -/
  | machi (rs : Reg) (rs2 : Reg)
  /-- `MACLO Rs, Rs2`: `11111101 | 00000101 | sssstttt` (R572). -/
  | maclo (rs : Reg) (rs2 : Reg)
  /-- `MULHI Rs, Rs2`: `11111101 | 00000000 | sssstttt` (R573). -/
  | mulhi (rs : Reg) (rs2 : Reg)
  /-- `MULLO Rs, Rs2`: `11111101 | 00000001 | sssstttt` (R574). -/
  | mullo (rs : Reg) (rs2 : Reg)
  /-- `MVFACHI Rd`: `11111101 | 00011111 | 0000dddd` (R575). -/
  | mvfachi (rd : Reg)
  /-- `MVFACMI Rd`: `11111101 | 00011111 | 0010dddd` (R576). -/
  | mvfacmi (rd : Reg)
  /-- `MVTACHI Rs`: `11111101 | 00010111 | 0000ssss` (R577). -/
  | mvtachi (rs : Reg)
  /-- `MVTACLO Rs`: `11111101 | 00010111 | 0001ssss` (R578). -/
  | mvtaclo (rs : Reg)
  /-- `RACW #IMM:1 (imm 0 means #1, 1 means #2)`: `11111101 | 00011000 | 000i0000` (R579). -/
  | racw (imm : BitVec 1)
  deriving DecidableEq, Repr

end Sys2Proof
end

