-- ==== Sys2Proof/Machine/State.lean ====
section
/-! DEFINITION. Everything the spec gives the machine (spec/10_state.md), as plain data, and the state right after
reset (spec/70_reset_and_hazards.md R670). -/

namespace Sys2Proof.Machine

/-- The defined fields of the processor status word (R30). Its reserved bits are no state: they read 0 and what is
written to them is dropped (D3, log entry 29). -/
structure Psw where
  c : Bool
  z : Bool
  s : Bool
  o : Bool
  i : Bool
  u : Bool
  pm : Bool
  ipl : BitVec 4
  deriving DecidableEq, Repr

/-- The defined fields of the floating-point status word (R40). FS is no field of its own: it is computed (R45). -/
structure Fpsw where
  rm : BitVec 2
  cv : Bool
  co : Bool
  cz : Bool
  cu : Bool
  cx : Bool
  ce : Bool
  dn : Bool
  ev : Bool
  eo : Bool
  ez : Bool
  eu : Bool
  ex : Bool
  fv : Bool
  fo : Bool
  fz : Bool
  fu : Bool
  fx : Bool
  deriving DecidableEq, Repr

/-- A maskable interrupt request as the outside presents it (R620). -/
structure Irq where
  vector : BitVec 8
  level : BitVec 4
  source : Nat
  deriving DecidableEq, Repr

/-- What the outside presents to one step (R608, R620, D12). -/
structure Input where
  reset : Bool
  nmi : Bool
  request : Option Irq
  fastSource : Option Nat
  deriving DecidableEq, Repr

/-- Which RMPA instructions have begun. The model's own (log entry 14): it tells a start of RMPA, whose operands R260
restricts, from the iterations that go on with it (R501, P6). -/
structure RmpaProgress where
  /-- The address of the one under way at the PC. -/
  running : Option Word
  /-- The addresses at which exceptions have suspended one. -/
  suspended : List Word
  deriving DecidableEq, Repr

/-- The machine. `pc` is the address of the instruction about to execute (R24); R0 is `isp` or `usp` by `psw.u` (R21).
`fresh` counts the free values drawn so far and `rmpa` marks the RMPA instructions under way: both are the model's own
(log entries 9 and 14); `inputs` and `ack` are the model's form of the spec's inputs and of its `acknowledge` (log entry
7). -/
structure State where
  /-- R1 to R15, R1 first (R21). -/
  regs : Vector Word 15
  isp : Word
  usp : Word
  intb : Word
  pc : Word
  psw : Psw
  bpc : Word
  bpsw : Psw
  fintv : Word
  fpsw : Fpsw
  acc : BitVec 64
  /-- The bytes that differ from what an unlisted address reads as, addresses rising (log entry 4). -/
  mem : List Host.Cell
  waiting : Bool
  nmiPending : Bool
  product : Product
  inputs : List Input
  ack : Option Irq
  fresh : Nat
  rmpa : RmpaProgress
  deriving DecidableEq, Repr

/-- Why the machine has no next state: `stuck` of spec/93_implementation_defined.md section 6. Both are safe: the
model stops where the spec describes nothing (log entry 12). -/
inductive Fault where
  /-- Raised by exception entry: a stack write or the vector read of the entry itself is a mem_fault (R607, S1). -/
  | stuckEntry
  /-- Raised by reset: the read of the reset vector is a mem_fault (R671, S2). -/
  | stuckReset
  deriving DecidableEq, Repr

/-- Why the model gives a program no meaning: `refuse` of spec/93_implementation_defined.md section 5. All are safe
(log entry 13). -/
inductive Refusal where
  /-- Raised by `exec` for an instruction that has no meaning yet; safe. -/
  | notModelled (mnemonic : String)
  /-- Raised by PUSHM and POPM: the first register is not below the last (R172, R386, R389, P1). -/
  | registerOrder
  /-- Raised by RTSD with a register range: the range is reversed or the frame does not cover it (R447, P2). -/
  | stackFrame
  /-- Raised by SMOVF, SMOVU, SMOVB: a byte would be written before it is read (R502, P3). -/
  | stringOverlap
  /-- Raised by a start of RMPA: R3 above 00010000h, or R6 not the sign of R5:R4 (R260, P4). -/
  | rmpaOperands
  deriving DecidableEq, Repr

/-- The outcome of an instruction or of a step. -/
abbrev Out := Host.Outcome State Fault Refusal

/-- PSW after reset: 00000000h, supervisor mode, ISP, interrupts disabled (R670, D4, log entry 3). -/
def Psw.zero : Psw :=
  { c := false, z := false, s := false, o := false, i := false, u := false, pm := false, ipl := 0 }

/-- FPSW after reset: 00000100h, only DN is 1 (R40, R670). -/
def Fpsw.reset : Fpsw :=
  { rm := 0, cv := false, co := false, cz := false, cu := false, cx := false, ce := false, dn := true,
    ev := false, eo := false, ez := false, eu := false, ex := false,
    fv := false, fo := false, fz := false, fu := false, fx := false }

/-- No RMPA under way. -/
def RmpaProgress.idle : RmpaProgress := { running := none, suspended := [] }

/-- The machine right after reset (R670), with nothing listed in memory. DESIGN CHOICE (log entries 1, 2): the
registers the spec leaves undefined are 0. `pc` is the longword at the reset vector FFFFFFFCh of that memory, 0
(R671, log entry 4). -/
def State.reset : State :=
  { regs := Vector.replicate 15 0, isp := 0, usp := 0, intb := 0, pc := 0, psw := Psw.zero,
    bpc := 0, bpsw := Psw.zero, fintv := 0, fpsw := Fpsw.reset, acc := 0, mem := [],
    waiting := false, nmiPending := false, product := Product.default, inputs := [], ack := none, fresh := 0,
    rmpa := RmpaProgress.idle }

end Sys2Proof.Machine
end

