-- ==== Sys2Proof/Machine/Flags.lean ====
section
/-! DEFINITION. The status words as words, and every flag computation of the spec (spec/10_state.md R30 to R48,
spec/00_scope.md R8, spec/44_branch.md R440). -/

namespace Sys2Proof

/-- I and U cannot be written in user mode (R34, R54). -/
def PswBit.restricted : PswBit → Bool
  | .i | .u => true
  | .c | .z | .s | .o => false

/-- The one-bit condition of BCnd.S and BCnd.W (R131). -/
def EqNe.cond : EqNe → Cond
  | .eq => .eq
  | .ne => .ne

end Sys2Proof

namespace Sys2Proof.Machine

/-! ### PSW -/

/-- A level as the product's IPL field holds it: with ipl_width = 3 its top bit is reserved (R30, R32). -/
def maskLevel (ipl3 : Bool) (l : BitVec 4) : BitVec 4 := if ipl3 then l &&& 7 else l

/-- The 32-bit PSW, reserved bits 0 (R30). -/
def Psw.toWord (p : Psw) : Word :=
  0#4 ++ p.ipl ++ 0#3 ++ BitVec.ofBool p.pm ++ 0#2 ++ BitVec.ofBool p.u ++ BitVec.ofBool p.i ++ 0#12
    ++ BitVec.ofBool p.o ++ BitVec.ofBool p.s ++ BitVec.ofBool p.z ++ BitVec.ofBool p.c

/-- The defined PSW fields of a word (R30, R38, D3). -/
def Psw.ofWord (ipl3 : Bool) (v : Word) : Psw :=
  { c := v.getLsbD 0, z := v.getLsbD 1, s := v.getLsbD 2, o := v.getLsbD 3, i := v.getLsbD 16, u := v.getLsbD 17,
    pm := v.getLsbD 20, ipl := maskLevel ipl3 (v.extractLsb' 24 4) }

/-- `psw_write` of MVTC and POPC: the flags in both modes, I, U and IPL in supervisor mode, PM never (R33). -/
def Psw.write (ipl3 : Bool) (v : Word) (p : Psw) : Psw :=
  let w := Psw.ofWord ipl3 v
  if p.pm then { p with c := w.c, z := w.z, s := w.s, o := w.o } else { w with pm := p.pm }

/-- `psw_restore` of RTE and RTFI: every field, and U is 1 on a return to user mode (R35). -/
def Psw.restore (ipl3 : Bool) (v : Word) : Psw :=
  let w := Psw.ofWord ipl3 v
  { w with u := w.u || w.pm }

/-- What exception entry does to the PSW: I, U and PM become 0 (R36, R607). -/
def Psw.entered (p : Psw) : Psw := { p with i := false, u := false, pm := false }

/-- Setting or clearing one bit by name (R34). -/
def Psw.setBit (p : Psw) (b : PswBit) (v : Bool) : Psw :=
  match b with
  | .c => { p with c := v }
  | .z => { p with z := v }
  | .s => { p with s := v }
  | .o => { p with o := v }
  | .i => { p with i := v }
  | .u => { p with u := v }

/-- The truth of a condition code (R440). -/
def Psw.holds (p : Psw) : Cond → Bool
  | .eq => p.z
  | .ne => !p.z
  | .geu => p.c
  | .ltu => !p.c
  | .gtu => p.c && !p.z
  | .leu => !(p.c && !p.z)
  | .pz => !p.s
  | .n => p.s
  | .ge => !(p.s ^^ p.o)
  | .lt => p.s ^^ p.o
  | .gt => !((p.s ^^ p.o) || p.z)
  | .le => (p.s ^^ p.o) || p.z
  | .o => p.o
  | .no => !p.o

/-! ### FPSW -/

/-- FS is the OR of FU, FZ, FO and FV; FX is not included (R45). -/
def Fpsw.fs (f : Fpsw) : Bool := f.fu || f.fz || f.fo || f.fv

/-- The 32-bit FPSW, reserved bits 0 (R40). -/
def Fpsw.toWord (f : Fpsw) : Word :=
  BitVec.ofBool f.fs ++ BitVec.ofBool f.fx ++ BitVec.ofBool f.fu ++ BitVec.ofBool f.fz ++ BitVec.ofBool f.fo
    ++ BitVec.ofBool f.fv ++ 0#11 ++ BitVec.ofBool f.ex ++ BitVec.ofBool f.eu ++ BitVec.ofBool f.ez
    ++ BitVec.ofBool f.eo ++ BitVec.ofBool f.ev ++ 0#1 ++ BitVec.ofBool f.dn ++ BitVec.ofBool f.ce
    ++ BitVec.ofBool f.cx ++ BitVec.ofBool f.cu ++ BitVec.ofBool f.cz ++ BitVec.ofBool f.co
    ++ BitVec.ofBool f.cv ++ f.rm

/-- `fpsw_write` of MVTC and POPC: a cause flag is kept only where 1 is written, FS is recomputed, reserved bits
stay 0 (R42, R46). -/
def Fpsw.write (v : Word) (f : Fpsw) : Fpsw :=
  { rm := v.extractLsb' 0 2, cv := f.cv && v.getLsbD 2, co := f.co && v.getLsbD 3, cz := f.cz && v.getLsbD 4,
    cu := f.cu && v.getLsbD 5, cx := f.cx && v.getLsbD 6, ce := f.ce && v.getLsbD 7, dn := v.getLsbD 8,
    ev := v.getLsbD 10, eo := v.getLsbD 11, ez := v.getLsbD 12, eu := v.getLsbD 13, ex := v.getLsbD 14,
    fv := v.getLsbD 26, fo := v.getLsbD 27, fz := v.getLsbD 28, fu := v.getLsbD 29, fx := v.getLsbD 30 }

/-- The events of one floating-point instruction: invalid operation, overflow, division by zero, underflow,
inexact, unimplemented processing (R325). -/
structure Events where
  v : Bool := false
  o : Bool := false
  z : Bool := false
  u : Bool := false
  x : Bool := false
  e : Bool := false
  deriving DecidableEq, Repr

/-- Steps 2, 4 and 5 of `fp_execute`: the cause flags become the events; a sticky flag is set by an event whose
enable bit is 0 (R42, R44, R325). -/
def Fpsw.record (f : Fpsw) (e : Events) : Fpsw :=
  { f with
    cv := e.v, co := e.o, cz := e.z, cu := e.u, cx := e.x, ce := e.e,
    fv := f.fv || (e.v && !f.ev), fo := f.fo || (e.o && !f.eo), fz := f.fz || (e.z && !f.ez),
    fu := f.fu || (e.u && !f.eu), fx := f.fx || (e.x && !f.ex) }

/-- Step 6 of `fp_execute`: unimplemented processing always traps, the others where enabled (R43, R325, R331). -/
def Fpsw.traps (f : Fpsw) (e : Events) : Bool :=
  e.e || (e.v && f.ev) || (e.o && f.eo) || (e.z && f.ez) || (e.u && f.eu) || (e.x && f.ex)

/-! ### Result flags -/

/-- `setZS` (R8). -/
def Psw.setZS (p : Psw) (r : Word) : Psw := { p with z := r == 0, s := r.msb }

/-- A carry or borrow bit as a word. -/
def bitWord (b : Bool) : Word := BitVec.setWidth 32 (BitVec.ofBool b)

/-- The sum of `addflags` (R8). -/
def addSum (a b : Word) (cin : Bool) : Word := a + b + bitWord cin

/-- `addflags`: the sum and the PSW with C, Z, S, O (R8). -/
def addFlags (a b : Word) (cin : Bool) (p : Psw) : Word × Psw :=
  let r := addSum a b cin
  (r, { p.setZS r with
        c := decide (2 ^ 32 ≤ a.toNat + b.toNat + cin.toNat),
        o := a.msb == b.msb && r.msb != a.msb })

/-- The difference of `subflags` (R8). -/
def subDiff (a b : Word) (bin : Bool) : Word := a - b - bitWord bin

/-- `subflags`: the difference and the PSW with C (1 is no borrow), Z, S, O (R8). -/
def subFlags (a b : Word) (bin : Bool) (p : Psw) : Word × Psw :=
  let r := subDiff a b bin
  (r, { p.setZS r with
        c := decide (b.toNat + bin.toNat ≤ a.toNat),
        o := a.msb != b.msb && r.msb != a.msb })

/-- Results whose only flags are Z and S: AND, OR, XOR, NOT, TST (R205, R216, R217, R272, R273). -/
def logicFlags (r : Word) (p : Psw) : Word × Psw := (r, p.setZS r)

/-- ABS: O is 1 for 80000000h, C unchanged (R202). -/
def absFlags (a : Word) (p : Psw) : Word × Psw :=
  let r := if a.msb then -a else a
  (r, { p.setZS r with o := a == 0x80000000 })

/-- NEG: C is 1 for a zero result, O for 80000000h (R214). -/
def negFlags (a : Word) (p : Psw) : Word × Psw :=
  let r := -a
  (r, { p.setZS r with c := r == 0, o := a == 0x80000000 })

/-- The last bit that a right shift by n shifts out, 0 for a count of 0 (R268, R270). -/
def lastOutRight (a : Word) (n : Nat) : Bool := n != 0 && a.getLsbD (n - 1)

/-- SHAR (R268). -/
def sharFlags (a : Word) (n : Nat) (p : Psw) : Word × Psw :=
  let r := a.sshiftRight n
  (r, { p.setZS r with c := lastOutRight a n, o := false })

/-- SHLR: O unchanged (R270). -/
def shlrFlags (a : Word) (n : Nat) (p : Psw) : Word × Psw :=
  let r := a >>> n
  (r, { p.setZS r with c := lastOutRight a n })

/-- Bits 31 to 31-n of a are all 0 or all 1: the sign does not change during a left shift by n (R269). -/
def signKept (a : Word) (n : Nat) : Bool :=
  let top := a.sshiftRight (31 - n)
  top == 0 || top == BitVec.allOnes 32

/-- SHLL (R269). -/
def shllFlags (a : Word) (n : Nat) (p : Psw) : Word × Psw :=
  let r := a <<< n
  (r, { p.setZS r with c := n != 0 && a.getLsbD (32 - n), o := n != 0 && !signKept a n })

/-- ROTL: C is bit 0 of the result, also for a count of 0 (R263). -/
def rotlFlags (a : Word) (n : Nat) (p : Psw) : Word × Psw :=
  let r := a.rotateLeft n
  (r, { p.setZS r with c := r.getLsbD 0 })

/-- ROTR: C is bit 31 of the result, also for a count of 0 (R264). -/
def rotrFlags (a : Word) (n : Nat) (p : Psw) : Word × Psw :=
  let r := a.rotateRight n
  (r, { p.setZS r with c := r.msb })

/-- ROLC: the carry enters at bit 0 (R261). -/
def rolcFlags (a : Word) (p : Psw) : Word × Psw :=
  let r : Word := a.extractLsb' 0 31 ++ BitVec.ofBool p.c
  (r, { p.setZS r with c := a.msb })

/-- RORC: the carry enters at bit 31 (R262). -/
def rorcFlags (a : Word) (p : Psw) : Word × Psw :=
  let r : Word := BitVec.ofBool p.c ++ a.extractLsb' 1 31
  (r, { p.setZS r with c := a.getLsbD 0 })

/-- BTST: C is the bit, Z its complement (R477). -/
def Psw.setBitTest (p : Psw) (bit : Bool) : Psw := { p with c := bit, z := !bit }

/-- The comparison flags of the string instructions: C is no borrow of a - b, Z is equality (R503, R508, R509). -/
def Psw.setCompare (p : Psw) (a b : Word) : Psw := { p with c := decide (b.toNat ≤ a.toNat), z := a == b }

end Sys2Proof.Machine
end

