-- ==== Sys2Proof/Machine/Ops.lean ====
section
/-! DEFINITION. The named operations over registers and memory, and taking an exception and returning from one
(spec/10_state.md, spec/20_memory.md, spec/60_exceptions.md). -/

namespace Sys2Proof

/-- Bytes of an access (R81). -/
def Size.bytes : Size → Nat
  | .b => 1
  | .w => 2
  | .l => 4

/-- The size as an address step or scale (R105, R106). -/
def Size.word (sz : Size) : Word := BitVec.ofNat 32 sz.bytes

/-- R(n+1), the upper register of the pair Rn starts (R23, R209). -/
def Reg.next (r : Reg) : Reg := r + 1

/-- The register a dsp:5 form names (R141). -/
def lowReg (r : LowReg) : Reg := ⟨r.val, by have := r.isLt; omega⟩

end Sys2Proof

namespace Sys2Proof.Machine

/-! ### Registers -/

/-- The stack pointer PSW.U selects (R21, R22). -/
def State.sp (s : State) : Word := if s.psw.u then s.usp else s.isp

/-- Write the stack pointer PSW.U selects. -/
def State.setSp (s : State) (v : Word) : State := if s.psw.u then { s with usp := v } else { s with isp := v }

/-- Read a general register; R0 is the selected stack pointer (R21). -/
def State.reg (s : State) (r : Reg) : Word :=
  if h : r.val = 0 then s.sp else s.regs[r.val - 1]'(by have := r.isLt; omega)

/-- Write a general register (R21). -/
def State.setReg (s : State) (r : Reg) (v : Word) : State :=
  if h : r.val = 0 then s.setSp v
  else { s with regs := s.regs.set (r.val - 1) v (by have := r.isLt; omega) }

/-- Replace the PSW. -/
def State.withPsw (s : State) (p : Psw) : State := { s with psw := p }

/-- Go to an address (R7 `pc <- target`). -/
def State.goto (s : State) (a : Word) : State := { s with pc := a }

/-- The address n bytes after the instruction's first byte, modulo 2^32 (R25, R26, D10). -/
def State.after (s : State) (n : Nat) : Word := s.pc + BitVec.ofNat 32 n

/-- Go to the next instruction, n bytes further (R7, R25). -/
def State.advance (s : State) (n : Nat) : State := s.goto (s.after n)

/-! ### Free values -/

/-- The next undefined 32-bit value, and the state after drawing it (R7 `undefined(32)`, D14, log entry 9). -/
def State.drawWord (s : State) : Word × State := (Config.freeWord s.fresh, { s with fresh := s.fresh + 1 })

/-- `R[r] <- undefined(32)`. -/
def State.clobberReg (s : State) (r : Reg) : State :=
  let (v, s) := s.drawWord
  s.setReg r v

/-- `ACC <- undefined(64)` (R49). -/
def State.clobberAcc (s : State) : State := { s with acc := Config.freeAcc s.fresh, fresh := s.fresh + 1 }

/-! ### Memory -/

/-- What a byte that nothing has written reads as. DESIGN CHOICE (log entry 4). -/
def Memory.blank : Byte := 0

/-- The byte at an address. -/
def Memory.get : List Host.Cell → Nat → Byte
  | [], _ => Memory.blank
  | c :: r, a => if c.1 = a then c.2 else Memory.get r a

/-- Write one byte, keeping addresses rising and no blank entry. -/
def Memory.set (a : Nat) (v : Byte) : List Host.Cell → List Host.Cell
  | [] => if v = Memory.blank then [] else [(a, v)]
  | c :: r =>
    if a < c.1 then if v = Memory.blank then c :: r else (a, v) :: c :: r
    else if a = c.1 then if v = Memory.blank then r else (a, v) :: r
    else c :: Memory.set a v r

/-- The canonical form: addresses strictly rising and in the address space (R80), no blank entry. -/
def Memory.wf (m : List Host.Cell) : Bool :=
  decide (m.Pairwise fun c d => c.1 < d.1) && m.all fun c => decide (c.1 < 2 ^ 32) && c.2 != Memory.blank

/-- `M[a]` (R82). -/
def State.byteAt (s : State) (a : Word) : Byte := Memory.get s.mem a.toNat

/-- `M[a] <- v` (R82). -/
def State.putByte (s : State) (a : Word) (v : Byte) : State := { s with mem := Memory.set a.toNat v s.mem }

/-- Write bytes at rising addresses, modulo 2^32. -/
def State.putBytes (s : State) (a : Word) : List Byte → State
  | [] => s
  | b :: r => (s.putByte a b).putBytes (a + 1) r

/-- The value of MemRead, zero-extended, with no check (R82, R88). -/
def State.peek (s : State) (a : Word) : Size → Word
  | .b => (s.byteAt a).setWidth 32
  | .w =>
    if s.product.bigEndian then (s.byteAt a ++ s.byteAt (a + 1)).setWidth 32
    else (s.byteAt (a + 1) ++ s.byteAt a).setWidth 32
  | .l =>
    if s.product.bigEndian then s.byteAt a ++ s.byteAt (a + 1) ++ s.byteAt (a + 2) ++ s.byteAt (a + 3)
    else s.byteAt (a + 3) ++ s.byteAt (a + 2) ++ s.byteAt (a + 1) ++ s.byteAt a

/-- The low bytes of a value in the order they stand in memory (R82). -/
def valueBytes (big : Bool) (sz : Size) (v : Word) : List Byte :=
  let l := match sz with
    | .b => [v.extractLsb' 0 8]
    | .w => [v.extractLsb' 0 8, v.extractLsb' 8 8]
    | .l => [v.extractLsb' 0 8, v.extractLsb' 8 8, v.extractLsb' 16 8, v.extractLsb' 24 8]
  if big then l.reverse else l

/-- The effect of MemWrite, with no check (R82, R88). -/
def State.poke (s : State) (a : Word) (sz : Size) (v : Word) : State :=
  s.putBytes a (valueBytes s.product.bigEndian sz v)

/-- mem_fault of an access in the present mode (R96). -/
def State.faultAt (s : State) (a : Word) (n : Nat) (kind : AccessKind) : Bool :=
  s.product.memFault a n kind s.psw.pm

/-! ### RMPA under way -/

/-- Mark the RMPA at an address as under way, or none (R501, log entry 14). -/
def State.markRmpa (s : State) (a : Option Word) : State := { s with rmpa := { s.rmpa with running := a } }

/-- Exception entry suspends the RMPA under way where the saved PC is its address (R501, Table 5.1 in R604). -/
def RmpaProgress.suspend (r : RmpaProgress) (savedPc : Word) : RmpaProgress :=
  { running := none, suspended := if r.running = some savedPc then r.suspended.insert savedPc else r.suspended }

/-- Every return to an address at which an RMPA was suspended goes on with it: software may take the handlers' returns
in any order and from any frame (R501, R616; DESIGN CHOICE, log entry 14). -/
def RmpaProgress.resume (r : RmpaProgress) (pc : Word) : RmpaProgress :=
  { r with running := if pc ∈ r.suspended then some pc else none }

/-! ### Taking an exception -/

/-- The kinds that save on the stack (R605): every kind but reset and the fast interrupt. -/
inductive Exc where
  | undefined
  | privileged
  | access
  | floating
  | nmi
  | interrupt (vector : BitVec 8) (level : BitVec 4)
  | trap (n : BitVec 8)
  deriving DecidableEq, Repr

/-- The address of vector n of the relocatable table (R93). -/
def State.tableVector (s : State) (n : BitVec 8) : Word := s.intb + 4 * n.setWidth 32

/-- Where the handler's address is read (R92, R605). -/
def State.vectorAddress (s : State) : Exc → Word
  | .undefined => 0xFFFFFFDC
  | .privileged => 0xFFFFFFD0
  | .access => 0xFFFFFFD4
  | .floating => 0xFFFFFFE4
  | .nmi => 0xFFFFFFF8
  | .interrupt n _ => s.tableVector n
  | .trap n => s.tableVector n

/-- IPL after entry: Fh for an NMI (7 with ipl_width = 3), the accepted level for an interrupt, unchanged for the
others (R32, R607). -/
def State.entryIpl (s : State) : Exc → BitVec 4
  | .nmi => maskLevel s.product.ipl3 15
  | .interrupt _ level => maskLevel s.product.ipl3 level
  | _ => s.psw.ipl

/-- The entry sequence of R607 for every kind that saves on the interrupt stack: PSW, then the PC, are pushed on
ISP, I, U and PM become 0, IPL follows the kind, the PC is the vector, the wait ends. The vector is read after the
pushes (log entry 11). A mem_fault inside the sequence is `stuck` (S1). -/
def State.enter (s : State) (e : Exc) (savedPc : Word) : Out :=
  let s1 := s.withPsw s.psw.entered
  let a1 := s.isp - 4
  let a2 := s.isp - 8
  let vec := s.vectorAddress e
  if s1.faultAt a1 4 .write || s1.faultAt a2 4 .write || s1.faultAt vec 4 .read then .fault .stuckEntry
  else
    let s2 := (s1.poke a1 .l s.psw.toWord).poke a2 .l savedPc
    .next
      { s2 with
        isp := a2, psw := { s2.psw with ipl := s.entryIpl e }, pc := s2.peek vec .l, waiting := false,
        rmpa := s.rmpa.suspend savedPc }

/-- The entry sequence of R607 for the fast interrupt: PSW to BPSW, PC to BPC, the PC is FINTV, no memory is
touched (R622). -/
def State.enterFast (s : State) (level : BitVec 4) : State :=
  { s with
    bpsw := s.psw, bpc := s.pc, pc := s.fintv, waiting := false, rmpa := s.rmpa.suspend s.pc,
    psw := { s.psw.entered with ipl := maskLevel s.product.ipl3 level } }

/-- Cancel the instruction and take the exception: the saved PC is the instruction's own address (R604). -/
def State.raise (s : State) (e : Exc) : Out := s.enter e s.pc

/-- The privilege check (R530, R610). -/
def State.privileged (s : State) (k : Out) : Out := if s.psw.pm then s.raise .privileged else k

/-! ### Checked accesses -/

/-- MemRead: an access exception cancels the instruction (R96, R380, R612). -/
def State.load (s : State) (a : Word) (sz : Size) (k : Word → Out) : Out :=
  if s.faultAt a sz.bytes .read then s.raise .access else k (s.peek a sz)

/-- MemWrite of an instruction whose state is still the one it began with (R96, R380, R612). -/
def State.store (s : State) (a : Word) (sz : Size) (v : Word) (k : State → Out) : Out :=
  if s.faultAt a sz.bytes .write then s.raise .access else k (s.poke a sz v)

/-- Longword reads, all checked before any counts (R380, D18). -/
def State.loadAll (s : State) (as : List Word) (k : List Word → Out) : Out :=
  if as.any fun a => s.faultAt a 4 .read then s.raise .access else k (as.map fun a => s.peek a .l)

/-- Longword writes in order, all checked before any is performed (R380, D18). -/
def State.storeAll (s : State) (ws : List (Word × Word)) (k : State → Out) : Out :=
  if ws.any fun w => s.faultAt w.1 4 .write then s.raise .access
  else k (ws.foldl (fun t w => t.poke w.1 .l w.2) s)

/-- `push32` (R7): SP goes down by 4, then the longword is written there. -/
def State.push (s : State) (v : Word) (k : State → Out) : Out :=
  s.store (s.sp - 4) .l v fun t => k (t.setSp (s.sp - 4))

/-- `pop32` (R7): the longword at SP, and the state with SP up by 4. -/
def State.popWord (s : State) (k : Word → State → Out) : Out :=
  s.load s.sp .l fun v => k v (s.setSp (s.sp + 4))

/-! ### Control registers -/

/-- FPSW as software reads it: 0 without an FPU (R47). -/
def State.fpswWord (s : State) : Word := if s.product.hasFpu then s.fpsw.toWord else 0

/-- `ctrl_read`, unrestricted in both modes (R540). -/
def State.ctrlRead (s : State) : CReg → Word
  | .psw => s.psw.toWord
  | .pc => s.pc
  | .usp => s.usp
  | .fpsw => s.fpswWord
  | .bpsw => s.bpsw.toWord
  | .bpc => s.bpc
  | .isp => s.isp
  | .fintv => s.fintv
  | .intb => s.intb

/-- A write that user mode ignores (R54, R541). -/
def State.supervisorOnly (s t : State) : State := if s.psw.pm then s else t

/-- `ctrl_write` of MVTC and POPC (R541). The PC is no destination: no encoding names it (R133). -/
def State.ctrlWrite (s : State) (cr : CReg) (v : Word) : State :=
  match cr with
  | .psw => s.withPsw (s.psw.write s.product.ipl3 v)
  | .pc => s
  | .usp => { s with usp := v }
  | .fpsw => if s.product.hasFpu then { s with fpsw := s.fpsw.write v } else s
  | .bpsw => s.supervisorOnly { s with bpsw := Psw.ofWord s.product.ipl3 v }
  | .bpc => s.supervisorOnly { s with bpc := v }
  | .isp => s.supervisorOnly { s with isp := v }
  | .fintv => s.supervisorOnly { s with fintv := v }
  | .intb => s.supervisorOnly { s with intb := v }

/-! ### Returning from an exception -/

/-- RTE: the PC and then the PSW are popped with the stack pointer selected before (R550). -/
def State.returnFromStack (s : State) : Out :=
  s.loadAll [s.sp, s.sp + 4] fun vs =>
    let t := s.setSp (s.sp + 8)
    let u := (t.withPsw (Psw.restore s.product.ipl3 (vs.getD 1 0))).goto (vs.getD 0 0)
    .next { u with rmpa := s.rmpa.resume u.pc }

/-- RTFI: the PSW and the PC come from BPSW and BPC, which are undefined afterwards; reserved bits of BPSW stay 0
(R551, D14, U15). -/
def State.returnFromFast (s : State) : State :=
  let (bpc, s1) := s.drawWord
  let (bpsw, s2) := s1.drawWord
  { s2 with
    psw := Psw.restore s.product.ipl3 s.bpsw.toWord, pc := s.bpc, bpc := bpc,
    bpsw := Psw.ofWord s.product.ipl3 bpsw, rmpa := s.rmpa.resume s.bpc }

/-! ### Reset, NMI and interrupts -/

/-- Draw n undefined words. -/
def drawWords (fresh n : Nat) : Vector Word n := Vector.ofFn fun i => Config.freeWord (fresh + i.val)

/-- `do_reset` (R670, R671): nothing is saved, memory is unchanged, the registers the spec leaves undefined are
drawn anew (D14, log entry 10), and the PC is the reset vector, read in supervisor mode. -/
def State.doReset (s : State) : Out :=
  let t : State :=
    { s with
      regs := drawWords s.fresh 15, isp := 0, usp := 0, intb := Config.freeWord (s.fresh + 15), psw := Psw.zero,
      bpc := Config.freeWord (s.fresh + 16),
      bpsw := Psw.ofWord s.product.ipl3 (Config.freeWord (s.fresh + 17)),
      fintv := Config.freeWord (s.fresh + 18), fpsw := Fpsw.reset, acc := Config.freeAcc (s.fresh + 19),
      waiting := false, nmiPending := false, fresh := s.fresh + 20, rmpa := RmpaProgress.idle }
  if t.faultAt 0xFFFFFFFC 4 .read then .fault .stuckReset else .next (t.goto (t.peek 0xFFFFFFFC .l))

/-- An input that asks for nothing. -/
def Input.quiet : Input := { reset := false, nmi := false, request := none, fastSource := none }

/-- The input of this step: the first of the queue, nothing when it is empty (R608, R620, log entry 7). -/
def State.input (s : State) : Input := s.inputs.headD Input.quiet

/-- Sample the input: it leaves the queue, an NMI event is latched, last step's acknowledgement goes (R614, R620). -/
def State.sample (s : State) : State :=
  { s with inputs := s.inputs.tail, nmiPending := s.nmiPending || s.input.nmi, ack := none }

/-- The level of a request: fast_interrupt_level for the fast source, else its own in the product's width (R622,
R5, log entry 8). -/
def State.requestLevel (s : State) (irq : Irq) (fast : Option Nat) : BitVec 4 :=
  maskLevel s.product.ipl3 (if fast = some irq.source then 15 else irq.level)

/-- A maskable request is acceptable when PSW.I = 1 and its level is above IPL (R615, R621). -/
def State.acceptable (s : State) (irq : Irq) (fast : Option Nat) : Bool :=
  s.psw.i && decide (s.psw.ipl < s.requestLevel irq fast)

/-- The request accepted at this sampling point, if any (R608, R621). -/
def State.accepted (s : State) (inp : Input) : Option Irq :=
  match inp.request with
  | some irq => if s.acceptable irq inp.fastSource then some irq else none
  | none => none

/-- Accept a request: acknowledge it and enter, as the fast interrupt where it comes from the fast source (R608,
R615, R622). -/
def State.acceptIrq (s : State) (irq : Irq) (fast : Option Nat) : Out :=
  let t := { s with ack := some irq }
  if fast = some irq.source then .next (t.enterFast (s.requestLevel irq fast))
  else t.enter (.interrupt irq.vector (s.requestLevel irq fast)) t.pc

/-- Accept the pending NMI (R608, R614). -/
def State.acceptNmi (s : State) : Out := { s with nmiPending := false }.enter .nmi s.pc

end Sys2Proof.Machine
end

