-- ==== Sys2Proof/Machine/Operands.lean ====
section
/-! DEFINITION. Operand forms and the ways an instruction ends (spec/20_memory.md R102 to R111,
spec/40_arithmetic_logic_a.md R200, R201, spec/43_transfer.md R381). -/

namespace Sys2Proof

/-! ### Values and lengths of the operand fields -/

/-- The 32-bit value of an immediate of `li`: sign-extended, or the longword (R128, R200). -/
def Simm.value : Simm → Word
  | .s8 v => v.signExtend 32
  | .s16 v => v.signExtend 32
  | .s24 v => v.signExtend 32
  | .i32 v => v

/-- Bytes of the immediate (R128). -/
def Simm.len : Simm → Nat
  | .s8 _ => 1
  | .s16 _ => 2
  | .s24 _ => 3
  | .i32 _ => 4

/-- The displacement field, zero-extended, not yet scaled (R105). -/
def Dsp.field : Dsp → Word
  | .none => 0
  | .d8 v => v.setWidth 32
  | .d16 v => v.setWidth 32

/-- Bytes of the displacement (R125). -/
def Dsp.len : Dsp → Nat
  | .none => 0
  | .d8 _ => 1
  | .d16 _ => 2

/-- Bytes of displacement of an `ld` operand (R125). -/
def RegOrMem.len : RegOrMem → Nat
  | .reg _ => 0
  | .mem _ d => d.len

/-- The access size of a memory extension (R105, R111). -/
def Memex.size : Memex → Size
  | .b => .b
  | .w => .w
  | .l => .l
  | .uw => .w

/-- The access size of MOVU (R129). -/
def MovuSize.size : MovuSize → Size
  | .b => .b
  | .w => .w

/-- The low bytes of a value, sign-extended (R381). -/
def Size.signExtend (sz : Size) (v : Word) : Word :=
  match sz with
  | .b => (v.extractLsb' 0 8).signExtend 32
  | .w => (v.extractLsb' 0 16).signExtend 32
  | .l => v

/-- The low bytes of a value, zero-extended (R381). -/
def Size.zeroExtend (sz : Size) (v : Word) : Word :=
  match sz with
  | .b => (v.extractLsb' 0 8).setWidth 32
  | .w => (v.extractLsb' 0 16).setWidth 32
  | .l => v

/-- The low bytes of one value below the upper bytes of another (R387). -/
def Size.overlay (sz : Size) (low high : Word) : Word :=
  match sz with
  | .b => high.extractLsb' 8 24 ++ low.extractLsb' 0 8
  | .w => high.extractLsb' 16 16 ++ low.extractLsb' 0 16
  | .l => low

/-- `load_memex`: the extension of a value read (R111). -/
def Memex.extend (mx : Memex) (v : Word) : Word :=
  match mx with
  | .b => Size.b.signExtend v
  | .w => Size.w.signExtend v
  | .l => v
  | .uw => v

/-- The distance 3 to 10 of pcdsp:3 (R132). -/
def shortDistance (v : BitVec 3) : Word := if v < 3#3 then v.setWidth 32 + 8 else v.setWidth 32

/-- The registers of a range, lowest number first (R386, R389, R447). -/
def regRange (first last : Reg) : List Reg := (List.finRange 16).filter fun r => first ≤ r && r ≤ last

end Sys2Proof

namespace Sys2Proof.Machine

/-! ### Effective addresses -/

/-- Register indirect and register relative, the displacement scaled by the access size (R104, R105). -/
def State.ea (s : State) (base : Reg) (d : Dsp) (sz : Size) : Word := s.reg base + d.field * sz.word

/-- The dsp:5 form (R105, R141). -/
def State.eaShort (s : State) (base : LowReg) (d : BitVec 5) (sz : Size) : Word :=
  s.reg (lowReg base) + d.setWidth 32 * sz.word

/-- Indexed register indirect (R108). -/
def State.eaIndexed (s : State) (ri rb : Reg) (sz : Size) : Word := s.reg ri * sz.word + s.reg rb

/-- The address [Rn+] or [-Rn] accesses (R106, R107). -/
def State.eaAuto (s : State) (mode : Auto) (r : Reg) (sz : Size) : Word :=
  match mode with
  | .postInc => s.reg r
  | .preDec => s.reg r - sz.word

/-- What [Rn+] or [-Rn] leaves in the register (R106, R107). -/
def State.autoUpdated (s : State) (mode : Auto) (r : Reg) (sz : Size) : Word :=
  match mode with
  | .postInc => s.reg r + sz.word
  | .preDec => s.reg r - sz.word

/-! ### Source operands -/

/-- A register or an unsigned byte of memory (R200, `ld` without `mi`). -/
def State.withRm (s : State) (src : RegOrMem) (k : Word → Out) : Out :=
  match src with
  | .reg r => k (s.reg r)
  | .mem base d => s.load (s.ea base d .b) .b k

/-- Memory with a size-extension specifier (R111, R200). -/
def State.withMx (s : State) (mx : Memex) (rs : Reg) (d : Dsp) (k : Word → Out) : Out :=
  s.load (s.ea rs d mx.size) mx.size fun v => k (mx.extend v)

/-- A register or a longword of memory: the source of the floating-point instructions (R334). -/
def State.withL (s : State) (src : RegOrMem) (k : Word → Out) : Out :=
  match src with
  | .reg r => k (s.reg r)
  | .mem base d => s.load (s.ea base d .l) .l k

/-- A register shift count: its low 5 bits (R263, R268). -/
def State.shiftCount (s : State) (r : Reg) : Nat := ((s.reg r).extractLsb' 0 5).toNat

/-! ### How an instruction ends -/

/-- Write a result with the PSW computed beside it, and go on n bytes further. -/
def State.finish (s : State) (rd : Reg) (r : Word × Psw) (n : Nat) : Out :=
  .next (((s.withPsw r.2).setReg rd r.1).advance n)

/-- Write the PSW only (CMP, TST, BTST). -/
def State.flagsOnly (s : State) (p : Psw) (n : Nat) : Out := .next ((s.withPsw p).advance n)

/-- Write one register only. -/
def State.assign (s : State) (rd : Reg) (v : Word) (n : Nat) : Out := .next ((s.setReg rd v).advance n)

/-- Write one register where a condition holds. -/
def State.assignIf (s : State) (c : Bool) (rd : Reg) (v : Word) (n : Nat) : Out :=
  if c then s.assign rd v n else .next (s.advance n)

/-- Store a value and go on. -/
def State.storeTo (s : State) (a : Word) (sz : Size) (v : Word) (n : Nat) : Out :=
  s.store a sz v fun t => .next (t.advance n)

end Sys2Proof.Machine
end

