-- ==== Sys2Proof/Machine/Arith.lean ====
section
/-! DEFINITION. The arithmetic and logic instructions (spec/40_arithmetic_logic_a.md R200 to R218,
spec/41_arithmetic_logic_b.md R261 to R274), one meaning per constructor. -/

namespace Sys2Proof.Machine

/-! ### Results shared by the forms of one instruction -/

/-- DIV: the quotient toward 0, none where the spec leaves it undefined (R207). -/
def divQuotient (a b : Word) : Option Word :=
  if b = 0 || (a = 0x80000000 && b = 0xFFFFFFFF) then none else some (BitVec.ofInt 32 (a.toInt.tdiv b.toInt))

/-- DIVU (R208). -/
def divuQuotient (a b : Word) : Option Word := if b = 0 then none else some (BitVec.ofNat 32 (a.toNat / b.toNat))

/-- Write a quotient with O = 0, or an undefined value with O = 1 (R207, R208, U4, U5). -/
def State.finishDiv (s : State) (rd : Reg) (q : Option Word) (n : Nat) : Out :=
  match q with
  | some v => s.finish rd (v, { s.psw with o := false }) n
  | none => .next (((s.withPsw { s.psw with o := true }).clobberReg rd).advance n)

/-- The signed 64-bit product (R209). -/
def signedProduct (a b : Word) : BitVec 64 := BitVec.ofInt 64 (a.toInt * b.toInt)

/-- The unsigned 64-bit product (R210). -/
def unsignedProduct (a b : Word) : BitVec 64 := BitVec.ofNat 64 (a.toNat * b.toNat)

/-- Write a register pair and leave ACC undefined (R209, R210). -/
def State.finishPair (s : State) (rd : Reg) (p : BitVec 64) (n : Nat) : Out :=
  .next ((((s.setReg rd (p.extractLsb' 0 32)).setReg rd.next (p.extractLsb' 32 32)).clobberAcc).advance n)

/-- Write a product's low half and leave ACC undefined (R213). -/
def State.finishMul (s : State) (rd : Reg) (v : Word) (n : Nat) : Out := .next (((s.setReg rd v).clobberAcc).advance n)

/-! ### ABS, ADC, ADD, AND, CMP -/

/-- `ABS Rd` (R202). -/
def execAbsR (rd : Reg) (s : State) : Out :=
  s.finish rd (absFlags (s.reg rd) s.psw) 2

/-- `ABS Rs, Rd` (R202). -/
def execAbsRR (rs : Reg) (rd : Reg) (s : State) : Out :=
  s.finish rd (absFlags (s.reg rs) s.psw) 3

/-- `ADC #SIMM/#IMM, Rd` (R203). -/
def execAdcImm (imm : Simm) (rd : Reg) (s : State) : Out :=
  s.finish rd (addFlags (s.reg rd) imm.value s.psw.c s.psw) (3 + imm.len)

/-- `ADC Rs, Rd` (R203). -/
def execAdcRR (rs : Reg) (rd : Reg) (s : State) : Out :=
  s.finish rd (addFlags (s.reg rd) (s.reg rs) s.psw.c s.psw) 3

/-- `ADC.L` with a memory source (R203). -/
def execAdcMem (rs : Reg) (d : Dsp) (rd : Reg) (s : State) : Out :=
  s.load (s.ea rs d .l) .l fun v => s.finish rd (addFlags (s.reg rd) v s.psw.c s.psw) (4 + d.len)

/-- `ADD #UIMM:4` (R204). -/
def execAddUimm4 (imm : BitVec 4) (rd : Reg) (s : State) : Out :=
  s.finish rd (addFlags (s.reg rd) (imm.setWidth 32) false s.psw) 2

/-- `ADD` with a register or .UB memory source (R204). -/
def execAddRm (src : RegOrMem) (rd : Reg) (s : State) : Out :=
  s.withRm src fun v => s.finish rd (addFlags (s.reg rd) v false s.psw) (2 + src.len)

/-- `ADD` with a memory source and `mi` (R204). -/
def execAddMx (mx : Memex) (rs : Reg) (d : Dsp) (rd : Reg) (s : State) : Out :=
  s.withMx mx rs d fun v => s.finish rd (addFlags (s.reg rd) v false s.psw) (3 + d.len)

/-- `ADD #SIMM/#IMM, Rs2, Rd` (R204). -/
def execAddImm3 (imm : Simm) (rs2 : Reg) (rd : Reg) (s : State) : Out :=
  s.finish rd (addFlags (s.reg rs2) imm.value false s.psw) (2 + imm.len)

/-- `ADD Rs, Rs2, Rd` (R204). -/
def execAddRRR (rs : Reg) (rs2 : Reg) (rd : Reg) (s : State) : Out :=
  s.finish rd (addFlags (s.reg rs2) (s.reg rs) false s.psw) 3

/-- `AND #UIMM:4` (R205). -/
def execAndUimm4 (imm : BitVec 4) (rd : Reg) (s : State) : Out :=
  s.finish rd (logicFlags (s.reg rd &&& (imm.setWidth 32)) s.psw) 2

/-- `AND #SIMM/#IMM` (R205). -/
def execAndImm (imm : Simm) (rd : Reg) (s : State) : Out :=
  s.finish rd (logicFlags (s.reg rd &&& imm.value) s.psw) (2 + imm.len)

/-- `AND` with a register or .UB memory source (R205). -/
def execAndRm (src : RegOrMem) (rd : Reg) (s : State) : Out :=
  s.withRm src fun v => s.finish rd (logicFlags (s.reg rd &&& v) s.psw) (2 + src.len)

/-- `AND` with a memory source and `mi` (R205). -/
def execAndMx (mx : Memex) (rs : Reg) (d : Dsp) (rd : Reg) (s : State) : Out :=
  s.withMx mx rs d fun v => s.finish rd (logicFlags (s.reg rd &&& v) s.psw) (3 + d.len)

/-- `AND Rs, Rs2, Rd` (R205). -/
def execAndRRR (rs : Reg) (rs2 : Reg) (rd : Reg) (s : State) : Out :=
  s.finish rd (logicFlags (s.reg rs2 &&& (s.reg rs)) s.psw) 3

/-- `CMP #UIMM:4` (R206). -/
def execCmpUimm4 (imm : BitVec 4) (rs2 : Reg) (s : State) : Out :=
  s.flagsOnly (subFlags (s.reg rs2) (imm.setWidth 32) false s.psw).2 2

/-- `CMP #UIMM:8` (R206). -/
def execCmpUimm8 (imm : BitVec 8) (rs2 : Reg) (s : State) : Out :=
  s.flagsOnly (subFlags (s.reg rs2) (imm.setWidth 32) false s.psw).2 3

/-- `CMP #SIMM/#IMM` (R206). -/
def execCmpImm (imm : Simm) (rs2 : Reg) (s : State) : Out :=
  s.flagsOnly (subFlags (s.reg rs2) imm.value false s.psw).2 (2 + imm.len)

/-- `CMP` with a register or .UB memory source (R206). -/
def execCmpRm (src : RegOrMem) (rs2 : Reg) (s : State) : Out :=
  s.withRm src fun v => s.flagsOnly (subFlags (s.reg rs2) v false s.psw).2 (2 + src.len)

/-- `CMP` with a memory source and `mi` (R206). -/
def execCmpMx (mx : Memex) (rs : Reg) (d : Dsp) (rs2 : Reg) (s : State) : Out :=
  s.withMx mx rs d fun v => s.flagsOnly (subFlags (s.reg rs2) v false s.psw).2 (3 + d.len)

/-! ### DIV, DIVU, EMUL, EMULU, MAX, MIN, MUL -/

/-- `DIV #SIMM/#IMM` (R207). -/
def execDivImm (imm : Simm) (rd : Reg) (s : State) : Out :=
  s.finishDiv rd (divQuotient (s.reg rd) imm.value) (3 + imm.len)

/-- `DIV` with a register or .UB memory source (R207). -/
def execDivRm (src : RegOrMem) (rd : Reg) (s : State) : Out :=
  s.withRm src fun v => s.finishDiv rd (divQuotient (s.reg rd) v) (3 + src.len)

/-- `DIV` with a memory source and `mi` (R207). -/
def execDivMx (mx : Memex) (rs : Reg) (d : Dsp) (rd : Reg) (s : State) : Out :=
  s.withMx mx rs d fun v => s.finishDiv rd (divQuotient (s.reg rd) v) (4 + d.len)

/-- `DIVU #SIMM/#IMM` (R208). -/
def execDivuImm (imm : Simm) (rd : Reg) (s : State) : Out :=
  s.finishDiv rd (divuQuotient (s.reg rd) imm.value) (3 + imm.len)

/-- `DIVU` with a register or .UB memory source (R208). -/
def execDivuRm (src : RegOrMem) (rd : Reg) (s : State) : Out :=
  s.withRm src fun v => s.finishDiv rd (divuQuotient (s.reg rd) v) (3 + src.len)

/-- `DIVU` with a memory source and `mi` (R208). -/
def execDivuMx (mx : Memex) (rs : Reg) (d : Dsp) (rd : Reg) (s : State) : Out :=
  s.withMx mx rs d fun v => s.finishDiv rd (divuQuotient (s.reg rd) v) (4 + d.len)

/-- `EMUL #SIMM/#IMM` (R209). -/
def execEmulImm (imm : Simm) (rd : Reg) (s : State) : Out :=
  s.finishPair rd (signedProduct (s.reg rd) imm.value) (3 + imm.len)

/-- `EMUL` with a register or .UB memory source (R209). -/
def execEmulRm (src : RegOrMem) (rd : Reg) (s : State) : Out :=
  s.withRm src fun v => s.finishPair rd (signedProduct (s.reg rd) v) (3 + src.len)

/-- `EMUL` with a memory source and `mi` (R209). -/
def execEmulMx (mx : Memex) (rs : Reg) (d : Dsp) (rd : Reg) (s : State) : Out :=
  s.withMx mx rs d fun v => s.finishPair rd (signedProduct (s.reg rd) v) (4 + d.len)

/-- `EMULU #SIMM/#IMM` (R210). -/
def execEmuluImm (imm : Simm) (rd : Reg) (s : State) : Out :=
  s.finishPair rd (unsignedProduct (s.reg rd) imm.value) (3 + imm.len)

/-- `EMULU` with a register or .UB memory source (R210). -/
def execEmuluRm (src : RegOrMem) (rd : Reg) (s : State) : Out :=
  s.withRm src fun v => s.finishPair rd (unsignedProduct (s.reg rd) v) (3 + src.len)

/-- `EMULU` with a memory source and `mi` (R210). -/
def execEmuluMx (mx : Memex) (rs : Reg) (d : Dsp) (rd : Reg) (s : State) : Out :=
  s.withMx mx rs d fun v => s.finishPair rd (unsignedProduct (s.reg rd) v) (4 + d.len)

/-- `MAX #SIMM/#IMM` (R211). -/
def execMaxImm (imm : Simm) (rd : Reg) (s : State) : Out :=
  s.assignIf ((s.reg rd).slt imm.value) rd imm.value (3 + imm.len)

/-- `MAX` with a register or .UB memory source (R211). -/
def execMaxRm (src : RegOrMem) (rd : Reg) (s : State) : Out :=
  s.withRm src fun v => s.assignIf ((s.reg rd).slt v) rd v (3 + src.len)

/-- `MAX` with a memory source and `mi` (R211). -/
def execMaxMx (mx : Memex) (rs : Reg) (d : Dsp) (rd : Reg) (s : State) : Out :=
  s.withMx mx rs d fun v => s.assignIf ((s.reg rd).slt v) rd v (4 + d.len)

/-- `MIN #SIMM/#IMM` (R212). -/
def execMinImm (imm : Simm) (rd : Reg) (s : State) : Out :=
  s.assignIf (BitVec.slt imm.value (s.reg rd)) rd imm.value (3 + imm.len)

/-- `MIN` with a register or .UB memory source (R212). -/
def execMinRm (src : RegOrMem) (rd : Reg) (s : State) : Out :=
  s.withRm src fun v => s.assignIf (BitVec.slt v (s.reg rd)) rd v (3 + src.len)

/-- `MIN` with a memory source and `mi` (R212). -/
def execMinMx (mx : Memex) (rs : Reg) (d : Dsp) (rd : Reg) (s : State) : Out :=
  s.withMx mx rs d fun v => s.assignIf (BitVec.slt v (s.reg rd)) rd v (4 + d.len)

/-- `MUL #UIMM:4` (R213). -/
def execMulUimm4 (imm : BitVec 4) (rd : Reg) (s : State) : Out :=
  s.finishMul rd (s.reg rd * (imm.setWidth 32)) 2

/-- `MUL #SIMM/#IMM` (R213). -/
def execMulImm (imm : Simm) (rd : Reg) (s : State) : Out :=
  s.finishMul rd (s.reg rd * imm.value) (2 + imm.len)

/-- `MUL` with a register or .UB memory source (R213). -/
def execMulRm (src : RegOrMem) (rd : Reg) (s : State) : Out :=
  s.withRm src fun v => s.finishMul rd (s.reg rd * v) (2 + src.len)

/-- `MUL` with a memory source and `mi` (R213). -/
def execMulMx (mx : Memex) (rs : Reg) (d : Dsp) (rd : Reg) (s : State) : Out :=
  s.withMx mx rs d fun v => s.finishMul rd (s.reg rd * v) (3 + d.len)

/-- `MUL Rs, Rs2, Rd` (R213). -/
def execMulRRR (rs : Reg) (rs2 : Reg) (rd : Reg) (s : State) : Out :=
  s.finishMul rd (s.reg rs2 * (s.reg rs)) 3

/-! ### NEG, NOP, NOT, OR -/

/-- `NEG Rd` (R214). -/
def execNegR (rd : Reg) (s : State) : Out :=
  s.finish rd (negFlags (s.reg rd) s.psw) 2

/-- `NEG Rs, Rd` (R214). -/
def execNegRR (rs : Reg) (rd : Reg) (s : State) : Out :=
  s.finish rd (negFlags (s.reg rs) s.psw) 3

/-- `NOP` (R215). -/
def execNop (s : State) : Out :=
  .next (s.advance 1)

/-- `NOT Rd` (R216). -/
def execNotR (rd : Reg) (s : State) : Out :=
  s.finish rd (logicFlags (~~~(s.reg rd)) s.psw) 2

/-- `NOT Rs, Rd` (R216). -/
def execNotRR (rs : Reg) (rd : Reg) (s : State) : Out :=
  s.finish rd (logicFlags (~~~(s.reg rs)) s.psw) 3

/-- `OR #UIMM:4` (R217). -/
def execOrUimm4 (imm : BitVec 4) (rd : Reg) (s : State) : Out :=
  s.finish rd (logicFlags (s.reg rd ||| (imm.setWidth 32)) s.psw) 2

/-- `OR #SIMM/#IMM` (R217). -/
def execOrImm (imm : Simm) (rd : Reg) (s : State) : Out :=
  s.finish rd (logicFlags (s.reg rd ||| imm.value) s.psw) (2 + imm.len)

/-- `OR` with a register or .UB memory source (R217). -/
def execOrRm (src : RegOrMem) (rd : Reg) (s : State) : Out :=
  s.withRm src fun v => s.finish rd (logicFlags (s.reg rd ||| v) s.psw) (2 + src.len)

/-- `OR` with a memory source and `mi` (R217). -/
def execOrMx (mx : Memex) (rs : Reg) (d : Dsp) (rd : Reg) (s : State) : Out :=
  s.withMx mx rs d fun v => s.finish rd (logicFlags (s.reg rd ||| v) s.psw) (3 + d.len)

/-- `OR Rs, Rs2, Rd` (R217). -/
def execOrRRR (rs : Reg) (rs2 : Reg) (rd : Reg) (s : State) : Out :=
  s.finish rd (logicFlags (s.reg rs2 ||| (s.reg rs)) s.psw) 3

/-! ### Rotates and shifts -/

/-- `ROLC Rd` (R261). -/
def execRolc (rd : Reg) (s : State) : Out :=
  s.finish rd (rolcFlags (s.reg rd) s.psw) 2

/-- `RORC Rd` (R262). -/
def execRorc (rd : Reg) (s : State) : Out :=
  s.finish rd (rorcFlags (s.reg rd) s.psw) 2

/-- `ROTL #IMM:5, Rd` (R263). -/
def execRotlImm (imm : BitVec 5) (rd : Reg) (s : State) : Out :=
  s.finish rd (rotlFlags (s.reg rd) imm.toNat s.psw) 3

/-- `ROTL Rs, Rd` (R263). -/
def execRotlRR (rs : Reg) (rd : Reg) (s : State) : Out :=
  s.finish rd (rotlFlags (s.reg rd) (s.shiftCount rs) s.psw) 3

/-- `ROTR #IMM:5, Rd` (R264). -/
def execRotrImm (imm : BitVec 5) (rd : Reg) (s : State) : Out :=
  s.finish rd (rotrFlags (s.reg rd) imm.toNat s.psw) 3

/-- `ROTR Rs, Rd` (R264). -/
def execRotrRR (rs : Reg) (rd : Reg) (s : State) : Out :=
  s.finish rd (rotrFlags (s.reg rd) (s.shiftCount rs) s.psw) 3

/-- `SHAR #IMM:5, Rd` (R268). -/
def execSharImm (imm : BitVec 5) (rd : Reg) (s : State) : Out :=
  s.finish rd (sharFlags (s.reg rd) imm.toNat s.psw) 2

/-- `SHAR Rs, Rd` (R268). -/
def execSharRR (rs : Reg) (rd : Reg) (s : State) : Out :=
  s.finish rd (sharFlags (s.reg rd) (s.shiftCount rs) s.psw) 3

/-- `SHAR #IMM:5, Rs2, Rd` (R268). -/
def execSharImm3 (imm : BitVec 5) (rs2 : Reg) (rd : Reg) (s : State) : Out :=
  s.finish rd (sharFlags (s.reg rs2) imm.toNat s.psw) 3

/-- `SHLL #IMM:5, Rd` (R269). -/
def execShllImm (imm : BitVec 5) (rd : Reg) (s : State) : Out :=
  s.finish rd (shllFlags (s.reg rd) imm.toNat s.psw) 2

/-- `SHLL Rs, Rd` (R269). -/
def execShllRR (rs : Reg) (rd : Reg) (s : State) : Out :=
  s.finish rd (shllFlags (s.reg rd) (s.shiftCount rs) s.psw) 3

/-- `SHLL #IMM:5, Rs2, Rd` (R269). -/
def execShllImm3 (imm : BitVec 5) (rs2 : Reg) (rd : Reg) (s : State) : Out :=
  s.finish rd (shllFlags (s.reg rs2) imm.toNat s.psw) 3

/-- `SHLR #IMM:5, Rd` (R270). -/
def execShlrImm (imm : BitVec 5) (rd : Reg) (s : State) : Out :=
  s.finish rd (shlrFlags (s.reg rd) imm.toNat s.psw) 2

/-- `SHLR Rs, Rd` (R270). -/
def execShlrRR (rs : Reg) (rd : Reg) (s : State) : Out :=
  s.finish rd (shlrFlags (s.reg rd) (s.shiftCount rs) s.psw) 3

/-- `SHLR #IMM:5, Rs2, Rd` (R270). -/
def execShlrImm3 (imm : BitVec 5) (rs2 : Reg) (rd : Reg) (s : State) : Out :=
  s.finish rd (shlrFlags (s.reg rs2) imm.toNat s.psw) 3

/-! ### SAT, SATR, SBB, SUB, TST, XOR -/

/-- `SAT Rd` (R265). -/
def execSat (rd : Reg) (s : State) : Out :=
  s.assignIf s.psw.o rd (if s.psw.s then 0x7FFFFFFF else 0x80000000) 2

/-- Write R6:R5:R4. -/
def State.setTriple (s : State) (hi mid lo : Word) : State := ((s.setReg 6 hi).setReg 5 mid).setReg 4 lo

/-- `SATR`: here S is the true sign (R266). -/
def execSatr (s : State) : Out :=
  if s.psw.o then
    .next ((if s.psw.s then s.setTriple 0xFFFFFFFF 0x80000000 0 else s.setTriple 0 0x7FFFFFFF 0xFFFFFFFF).advance 2)
  else .next (s.advance 2)

/-- `SBB Rs, Rd` (R267). -/
def execSbbRR (rs : Reg) (rd : Reg) (s : State) : Out :=
  s.finish rd (subFlags (s.reg rd) (s.reg rs) (!s.psw.c) s.psw) 3

/-- `SBB.L` with a memory source (R267). -/
def execSbbMem (rs : Reg) (d : Dsp) (rd : Reg) (s : State) : Out :=
  s.load (s.ea rs d .l) .l fun v => s.finish rd (subFlags (s.reg rd) v (!s.psw.c) s.psw) (4 + d.len)

/-- `SUB #UIMM:4` (R271). -/
def execSubUimm4 (imm : BitVec 4) (rd : Reg) (s : State) : Out :=
  s.finish rd (subFlags (s.reg rd) (imm.setWidth 32) false s.psw) 2

/-- `SUB` with a register or .UB memory source (R271). -/
def execSubRm (src : RegOrMem) (rd : Reg) (s : State) : Out :=
  s.withRm src fun v => s.finish rd (subFlags (s.reg rd) v false s.psw) (2 + src.len)

/-- `SUB` with a memory source and `mi` (R271). -/
def execSubMx (mx : Memex) (rs : Reg) (d : Dsp) (rd : Reg) (s : State) : Out :=
  s.withMx mx rs d fun v => s.finish rd (subFlags (s.reg rd) v false s.psw) (3 + d.len)

/-- `SUB Rs, Rs2, Rd` (R271). -/
def execSubRRR (rs : Reg) (rs2 : Reg) (rd : Reg) (s : State) : Out :=
  s.finish rd (subFlags (s.reg rs2) (s.reg rs) false s.psw) 3

/-- `TST #SIMM/#IMM` (R272). -/
def execTstImm (imm : Simm) (rs2 : Reg) (s : State) : Out :=
  s.flagsOnly (logicFlags (s.reg rs2 &&& imm.value) s.psw).2 (3 + imm.len)

/-- `TST` with a register or .UB memory source (R272). -/
def execTstRm (src : RegOrMem) (rs2 : Reg) (s : State) : Out :=
  s.withRm src fun v => s.flagsOnly (logicFlags (s.reg rs2 &&& v) s.psw).2 (3 + src.len)

/-- `TST` with a memory source and `mi` (R272). -/
def execTstMx (mx : Memex) (rs : Reg) (d : Dsp) (rs2 : Reg) (s : State) : Out :=
  s.withMx mx rs d fun v => s.flagsOnly (logicFlags (s.reg rs2 &&& v) s.psw).2 (4 + d.len)

/-- `XOR #SIMM/#IMM` (R273). -/
def execXorImm (imm : Simm) (rd : Reg) (s : State) : Out :=
  s.finish rd (logicFlags (s.reg rd ^^^ imm.value) s.psw) (3 + imm.len)

/-- `XOR` with a register or .UB memory source (R273). -/
def execXorRm (src : RegOrMem) (rd : Reg) (s : State) : Out :=
  s.withRm src fun v => s.finish rd (logicFlags (s.reg rd ^^^ v) s.psw) (3 + src.len)

/-- `XOR` with a memory source and `mi` (R273). -/
def execXorMx (mx : Memex) (rs : Reg) (d : Dsp) (rd : Reg) (s : State) : Out :=
  s.withMx mx rs d fun v => s.finish rd (logicFlags (s.reg rd ^^^ v) s.psw) (4 + d.len)

end Sys2Proof.Machine
end

