-- ==== Sys2Proof/Machine/Bit.lean ====
section
/-! DEFINITION. The bit manipulation instructions (spec/45_bit_manipulation.md R470 to R478), one meaning per
constructor. -/

namespace Sys2Proof.Machine

/-! ### One bit of a value (R470) -/

/-- The value with only bit n set. -/
def bitMask (n : Nat) : Word := 1#32 <<< n

/-- Bit n becomes 0 (R473). -/
def bitClear (n : Nat) (v : Word) : Word := v &&& ~~~(bitMask n)

/-- Bit n becomes 1 (R476). -/
def bitSet (n : Nat) (v : Word) : Word := v ||| bitMask n

/-- Bit n is inverted (R475). -/
def bitFlip (n : Nat) (v : Word) : Word := v ^^^ bitMask n

/-- Bit n becomes the truth of a condition (R474). -/
def bitMove (c : Bool) (n : Nat) (v : Word) : Word := if c then bitSet n v else bitClear n v

/-- A register bit number for a byte of memory: its low 3 bits (R470). -/
def State.byteBit (s : State) (r : Reg) : Nat := ((s.reg r).extractLsb' 0 3).toNat

/-- A register bit number for a register: its low 5 bits (R470). -/
def State.wordBit (s : State) (r : Reg) : Nat := ((s.reg r).extractLsb' 0 5).toNat

/-- Read a byte and write it back changed (R471). -/
def State.modifyByte (s : State) (a : Word) (f : Word → Word) (n : Nat) : Out :=
  s.load a .b fun v => s.storeTo a .b (f v) n

/-- Read a byte and test a bit of it (R471, R477). -/
def State.testByte (s : State) (a : Word) (bit n : Nat) : Out :=
  s.load a .b fun v => s.flagsOnly (s.psw.setBitTest (v.getLsbD bit)) n

/-! ### BCLR (R473) -/

/-- BCLR (1) `BCLR #IMM:3, [Rd]/dsp[Rd].B` (R473). -/
def execBclrImmMem (imm : BitVec 3) (rd : Reg) (d : Dsp) (s : State) : Out :=
  s.modifyByte (s.ea rd d .b) (bitClear imm.toNat) (2 + d.len)

/-- BCLR (2) `BCLR Rs, [Rd]/dsp[Rd].B` (R473). -/
def execBclrRMem (rs : Reg) (rd : Reg) (d : Dsp) (s : State) : Out :=
  s.modifyByte (s.ea rd d .b) (bitClear (s.byteBit rs)) (3 + d.len)

/-- BCLR (3) `BCLR #IMM:5, Rd` (R473). -/
def execBclrImm (imm : BitVec 5) (rd : Reg) (s : State) : Out := s.assign rd (bitClear imm.toNat (s.reg rd)) 2

/-- BCLR (4) `BCLR Rs, Rd` (R473). -/
def execBclrRR (rs : Reg) (rd : Reg) (s : State) : Out := s.assign rd (bitClear (s.wordBit rs) (s.reg rd)) 3

/-! ### BSET (R476) -/

/-- BSET (1) `BSET #IMM:3, [Rd]/dsp[Rd].B` (R476). -/
def execBsetImmMem (imm : BitVec 3) (rd : Reg) (d : Dsp) (s : State) : Out :=
  s.modifyByte (s.ea rd d .b) (bitSet imm.toNat) (2 + d.len)

/-- BSET (2) `BSET Rs, [Rd]/dsp[Rd].B` (R476). -/
def execBsetRMem (rs : Reg) (rd : Reg) (d : Dsp) (s : State) : Out :=
  s.modifyByte (s.ea rd d .b) (bitSet (s.byteBit rs)) (3 + d.len)

/-- BSET (3) `BSET #IMM:5, Rd` (R476). -/
def execBsetImm (imm : BitVec 5) (rd : Reg) (s : State) : Out := s.assign rd (bitSet imm.toNat (s.reg rd)) 2

/-- BSET (4) `BSET Rs, Rd` (R476). -/
def execBsetRR (rs : Reg) (rd : Reg) (s : State) : Out := s.assign rd (bitSet (s.wordBit rs) (s.reg rd)) 3

/-! ### BTST (R477) -/

/-- BTST (1) `BTST #IMM:3, [Rs2]/dsp[Rs2].B` (R477). -/
def execBtstImmMem (imm : BitVec 3) (rs2 : Reg) (d : Dsp) (s : State) : Out :=
  s.testByte (s.ea rs2 d .b) imm.toNat (2 + d.len)

/-- BTST (2) `BTST Rs, [Rs2]/dsp[Rs2].B` (R477). -/
def execBtstRMem (rs : Reg) (rs2 : Reg) (d : Dsp) (s : State) : Out :=
  s.testByte (s.ea rs2 d .b) (s.byteBit rs) (3 + d.len)

/-- BTST (3) `BTST #IMM:5, Rs2` (R477). -/
def execBtstImm (imm : BitVec 5) (rs2 : Reg) (s : State) : Out :=
  s.flagsOnly (s.psw.setBitTest ((s.reg rs2).getLsbD imm.toNat)) 2

/-- BTST (4) `BTST Rs, Rs2` (R477). -/
def execBtstRR (rs : Reg) (rs2 : Reg) (s : State) : Out :=
  s.flagsOnly (s.psw.setBitTest ((s.reg rs2).getLsbD (s.wordBit rs))) 3

/-! ### BMCnd (R474) -/

/-- BMCnd (1) `BMCnd #IMM:3, [Rd]/dsp[Rd].B` (R474). -/
def execBmcndMem (cd : Cond) (imm : BitVec 3) (rd : Reg) (d : Dsp) (s : State) : Out :=
  s.modifyByte (s.ea rd d .b) (bitMove (s.psw.holds cd) imm.toNat) (3 + d.len)

/-- BMCnd (2) `BMCnd #IMM:5, Rd` (R474). -/
def execBmcndR (cd : Cond) (imm : BitVec 5) (rd : Reg) (s : State) : Out :=
  s.assign rd (bitMove (s.psw.holds cd) imm.toNat (s.reg rd)) 3

/-! ### BNOT (R475) -/

/-- BNOT (1) `BNOT #IMM:3, [Rd]/dsp[Rd].B` (R475). -/
def execBnotImmMem (imm : BitVec 3) (rd : Reg) (d : Dsp) (s : State) : Out :=
  s.modifyByte (s.ea rd d .b) (bitFlip imm.toNat) (3 + d.len)

/-- BNOT (2) `BNOT Rs, [Rd]/dsp[Rd].B` (R475). -/
def execBnotRMem (rs : Reg) (rd : Reg) (d : Dsp) (s : State) : Out :=
  s.modifyByte (s.ea rd d .b) (bitFlip (s.byteBit rs)) (3 + d.len)

/-- BNOT (3) `BNOT #IMM:5, Rd` (R475). -/
def execBnotImm (imm : BitVec 5) (rd : Reg) (s : State) : Out := s.assign rd (bitFlip imm.toNat (s.reg rd)) 3

/-- BNOT (4) `BNOT Rs, Rd` (R475). -/
def execBnotRR (rs : Reg) (rd : Reg) (s : State) : Out := s.assign rd (bitFlip (s.wordBit rs) (s.reg rd)) 3

end Sys2Proof.Machine
end

