-- ==== Sys2Proof/Machine/Transfer.lean ====
section
/-! DEFINITION. The transfer instructions (spec/43_transfer.md R380 to R396), one meaning per constructor. -/

namespace Sys2Proof.Machine

/-! ### MOV (R382) -/

/-- MOV (1) `MOV.size Rs, dsp:5[Rd]` (R382). -/
def execMovStoreD5 (sz : Size) (rs : LowReg) (d : BitVec 5) (rd : LowReg) (s : State) : Out :=
  s.storeTo (s.eaShort rd d sz) sz (s.reg (lowReg rs)) 2

/-- MOV (2) `MOV.size dsp:5[Rs], Rd` (R382). -/
def execMovLoadD5 (sz : Size) (d : BitVec 5) (rs : LowReg) (rd : LowReg) (s : State) : Out :=
  s.load (s.eaShort rs d sz) sz fun v => s.assign (lowReg rd) (sz.signExtend v) 2

/-- MOV (3) `MOV.L #UIMM:4, Rd` (R382). -/
def execMovUimm4 (imm : BitVec 4) (rd : Reg) (s : State) : Out := s.assign rd (imm.setWidth 32) 2

/-- MOV (4) `MOV.size #imm8, dsp:5[Rd]` (R382). -/
def execMovImmD5 (sz : Size) (imm : BitVec 8) (d : BitVec 5) (rd : LowReg) (s : State) : Out :=
  s.storeTo (s.eaShort rd d sz) sz (imm.setWidth 32) 3

/-- MOV (5) `MOV.L #UIMM:8, Rd` (R382). -/
def execMovUimm8 (imm : BitVec 8) (rd : Reg) (s : State) : Out := s.assign rd (imm.setWidth 32) 3

/-- MOV (6) `MOV.L #SIMM/#IMM, Rd` (R382). -/
def execMovImm (imm : Simm) (rd : Reg) (s : State) : Out := s.assign rd imm.value (2 + imm.len)

/-- MOV (7) `MOV.size Rs, Rd` (R382). -/
def execMovRR (sz : Size) (rs : Reg) (rd : Reg) (s : State) : Out := s.assign rd (sz.signExtend (s.reg rs)) 2

/-- MOV (8) `MOV.size #imm, [Rd]/dsp[Rd]` (R382). -/
def execMovImmMem (sz : Size) (imm : Simm) (rd : Reg) (d : Dsp) (s : State) : Out :=
  s.storeTo (s.ea rd d sz) sz imm.value (2 + d.len + imm.len)

/-- MOV (9) `MOV.size [Rs]/dsp[Rs], Rd` (R382). -/
def execMovLoad (sz : Size) (rs : Reg) (d : Dsp) (rd : Reg) (s : State) : Out :=
  s.load (s.ea rs d sz) sz fun v => s.assign rd (sz.signExtend v) (2 + d.len)

/-- MOV (10) `MOV.size [Ri, Rb], Rd` (R382). -/
def execMovLoadIdx (sz : Size) (ri : Reg) (rb : Reg) (rd : Reg) (s : State) : Out :=
  s.load (s.eaIndexed ri rb sz) sz fun v => s.assign rd (sz.signExtend v) 3

/-- MOV (11) `MOV.size Rs, [Rd]/dsp[Rd]` (R382). -/
def execMovStore (sz : Size) (rs : Reg) (rd : Reg) (d : Dsp) (s : State) : Out :=
  s.storeTo (s.ea rd d sz) sz (s.reg rs) (2 + d.len)

/-- MOV (12) `MOV.size Rs, [Ri, Rb]` (R382). -/
def execMovStoreIdx (sz : Size) (rs : Reg) (ri : Reg) (rb : Reg) (s : State) : Out :=
  s.storeTo (s.eaIndexed ri rb sz) sz (s.reg rs) 3

/-- MOV (13) `MOV.size [Rs]/dsp[Rs], [Rd]/dsp[Rd]`: source read first (R382). -/
def execMovMemMem (sz : Size) (rs : Reg) (ds : Dsp) (rd : Reg) (dd : Dsp) (s : State) : Out :=
  s.load (s.ea rs ds sz) sz fun v => s.storeTo (s.ea rd dd sz) sz v (2 + ds.len + dd.len)

/-- MOV (14) `MOV.size Rs, [Rd+]` and `Rs, [-Rd]`: the data is read before the address is updated (R382). -/
def execMovStoreAuto (mode : Auto) (sz : Size) (rs : Reg) (rd : Reg) (s : State) : Out :=
  s.store (s.eaAuto mode rd sz) sz (s.reg rs) fun t => t.assign rd (s.autoUpdated mode rd sz) 3

/-- MOV (15) `MOV.size [Rs+], Rd` and `[-Rs], Rd`: the data is written last (R382). -/
def execMovLoadAuto (mode : Auto) (sz : Size) (rs : Reg) (rd : Reg) (s : State) : Out :=
  s.load (s.eaAuto mode rs sz) sz fun v =>
    (s.setReg rs (s.autoUpdated mode rs sz)).assign rd (sz.signExtend v) 3

/-! ### MOVU (R383) -/

/-- MOVU (1) `MOVU.size dsp:5[Rs], Rd` (R383). -/
def execMovuLoadD5 (sz : MovuSize) (d : BitVec 5) (rs : LowReg) (rd : LowReg) (s : State) : Out :=
  s.load (s.eaShort rs d sz.size) sz.size fun v => s.assign (lowReg rd) v 2

/-- MOVU (2) `MOVU.size Rs / [Rs] / dsp[Rs], Rd` (R383). -/
def execMovuRm (sz : MovuSize) (src : RegOrMem) (rd : Reg) (s : State) : Out :=
  match src with
  | .reg rs => s.assign rd (sz.size.zeroExtend (s.reg rs)) 2
  | .mem rs d => s.load (s.ea rs d sz.size) sz.size fun v => s.assign rd v (2 + d.len)

/-- MOVU (3) `MOVU.size [Ri, Rb], Rd` (R383). -/
def execMovuLoadIdx (sz : MovuSize) (ri : Reg) (rb : Reg) (rd : Reg) (s : State) : Out :=
  s.load (s.eaIndexed ri rb sz.size) sz.size fun v => s.assign rd v 3

/-- MOVU (4) `MOVU.size [Rs+], Rd` and `[-Rs], Rd` (R383). -/
def execMovuLoadAuto (mode : Auto) (sz : MovuSize) (rs : Reg) (rd : Reg) (s : State) : Out :=
  s.load (s.eaAuto mode rs sz.size) sz.size fun v =>
    (s.setReg rs (s.autoUpdated mode rs sz.size)).assign rd v 3

/-! ### The stack -/

/-- `POP Rd`: the write of dest is last (R384). -/
def execPop (rd : Reg) (s : State) : Out := s.popWord fun v t => t.assign rd v 2

/-- `POPC Rx`: SP rises first, then the control register is written (R385). -/
def execPopc (cr : CReg) (s : State) : Out := s.popWord fun v t => .next ((t.ctrlWrite cr v).advance 2)

/-- Write values to registers, in order. -/
def State.setRegs (s : State) (rs : List Reg) (vs : List Word) : State :=
  (rs.zip vs).foldl (fun t p => t.setReg p.1 p.2) s

/-- The addresses of n longwords from a, rising. -/
def longwords (a : Word) (n : Nat) : List Word := (List.range n).map fun k => a + 4 * BitVec.ofNat 32 k

/-- `POPM Rd-Rd2`: the lowest register comes from the lowest address (R386). -/
def execPopm (rd : Reg) (rd2 : Reg) (s : State) : Out :=
  if rd < rd2 then
    let rs := regRange rd rd2
    s.loadAll (longwords s.sp rs.length) fun vs =>
      .next (((s.setSp (s.sp + 4 * BitVec.ofNat 32 rs.length)).setRegs rs vs).advance 2)
  else .refused .registerOrder

/-- How many undefined values a push of the size takes (R387). -/
def pushDraws (sz : Size) : Nat := if sz = .l then 0 else 1

/-- Push the low bytes of a value; the upper bytes of the longword are undefined for .B and .W (R387, D14, U14). -/
def State.pushSized (s : State) (sz : Size) (v : Word) (n : Nat) : Out :=
  s.push (sz.overlay v s.drawWord.1) fun t => .next ({ t with fresh := t.fresh + pushDraws sz }.advance n)

/-- `PUSH.size Rs`: the value is read before SP goes down (R387). -/
def execPushR (sz : Size) (rs : Reg) (s : State) : Out := s.pushSized sz (s.reg rs) 2

/-- `PUSH.size [Rs]/dsp[Rs]` (R387). -/
def execPushMem (sz : Size) (rs : Reg) (d : Dsp) (s : State) : Out :=
  s.load (s.ea rs d sz) sz fun v => s.pushSized sz v (2 + d.len)

/-- `PUSHC Rx` (R388). -/
def execPushc (cr : CReg) (s : State) : Out := s.push (s.ctrlRead cr) fun t => .next (t.advance 2)

/-- `PUSHM Rs-Rs2`: the highest register is pushed first, the lowest ends at the lowest address (R389). -/
def execPushm (rs : Reg) (rs2 : Reg) (s : State) : Out :=
  if rs < rs2 then
    let range := regRange rs rs2
    let bottom := s.sp - 4 * BitVec.ofNat 32 range.length
    s.storeAll ((longwords bottom range.length).zip (range.map s.reg)).reverse fun t =>
      .next ((t.setSp bottom).advance 2)
  else .refused .registerOrder

/-! ### REVL, REVW, SCCnd, STNZ, STZ, XCHG -/

/-- The bytes of a longword reversed (R390). -/
def reverseLong (v : Word) : Word :=
  v.extractLsb' 0 8 ++ v.extractLsb' 8 8 ++ v.extractLsb' 16 8 ++ v.extractLsb' 24 8

/-- The bytes of each half reversed (R391). -/
def reverseWords (v : Word) : Word :=
  v.extractLsb' 16 8 ++ v.extractLsb' 24 8 ++ v.extractLsb' 0 8 ++ v.extractLsb' 8 8

/-- `REVL Rs, Rd` (R390). -/
def execRevl (rs : Reg) (rd : Reg) (s : State) : Out := s.assign rd (reverseLong (s.reg rs)) 3

/-- `REVW Rs, Rd` (R391). -/
def execRevw (rs : Reg) (rd : Reg) (s : State) : Out := s.assign rd (reverseWords (s.reg rs)) 3

/-- `SCCnd.size Rd / [Rd] / dsp[Rd]` (R392). -/
def execSccnd (cd : Cond) (sz : Size) (dst : RegOrMem) (s : State) : Out :=
  match dst with
  | .reg rd => s.assign rd (bitWord (s.psw.holds cd)) 3
  | .mem rd d => s.storeTo (s.ea rd d sz) sz (bitWord (s.psw.holds cd)) (3 + d.len)

/-- `STNZ #SIMM/#IMM, Rd` (R393). -/
def execStnz (imm : Simm) (rd : Reg) (s : State) : Out := s.assignIf (!s.psw.z) rd imm.value (3 + imm.len)

/-- `STZ #SIMM/#IMM, Rd` (R394). -/
def execStz (imm : Simm) (rd : Reg) (s : State) : Out := s.assignIf s.psw.z rd imm.value (3 + imm.len)

/-- XCHG with memory: the read, then the write of the same bytes, then rd (R395). -/
def State.exchange (s : State) (a : Word) (sz : Size) (ext : Word → Word) (rd : Reg) (n : Nat) : Out :=
  s.load a sz fun v => s.store a sz (s.reg rd) fun t => t.assign rd (ext v) n

/-- `XCHG Rs / [Rs].UB / dsp[Rs].UB, Rd` (R395). -/
def execXchgRm (src : RegOrMem) (rd : Reg) (s : State) : Out :=
  match src with
  | .reg rs => (s.setReg rs (s.reg rd)).assign rd (s.reg rs) 3
  | .mem rs d => s.exchange (s.ea rs d .b) .b id rd (3 + d.len)

/-- `XCHG` with a memory operand and `mi` (R395). -/
def execXchgMx (mx : Memex) (rs : Reg) (d : Dsp) (rd : Reg) (s : State) : Out :=
  s.exchange (s.ea rs d mx.size) mx.size mx.extend rd (4 + d.len)

end Sys2Proof.Machine
end

