-- ==== Sys2Proof/Machine/Branch.lean ====
section
/-! DEFINITION. The branch instructions (spec/44_branch.md R440 to R448), one meaning per constructor. Every
distance counts from the first byte of the branch itself (R110). -/

namespace Sys2Proof.Machine

/-- Branch where a condition holds, else go on n bytes further (R441). -/
def State.branchIf (s : State) (c : Bool) (d : Word) (n : Nat) : Out :=
  .next (if c then s.goto (s.pc + d) else s.advance n)

/-- Branch by a distance (R442). -/
def State.branch (s : State) (d : Word) : Out := .next (s.goto (s.pc + d))

/-- Push the address n bytes further and go to a target (R443, R445). -/
def State.call (s : State) (target : Word) (n : Nat) : Out := s.push (s.after n) fun t => .next (t.goto target)

/-- BCnd (1) `BEQ.S`, `BNE.S` (R441). -/
def execBcndS (c : EqNe) (dist : BitVec 3) (s : State) : Out := s.branchIf (s.psw.holds c.cond) (shortDistance dist) 1

/-- BCnd (2) `BCnd.B` (R441). -/
def execBcndB (cd : Cond) (disp : BitVec 8) (s : State) : Out := s.branchIf (s.psw.holds cd) (disp.signExtend 32) 2

/-- BCnd (3) `BEQ.W`, `BNE.W` (R441). -/
def execBcndW (c : EqNe) (disp : BitVec 16) (s : State) : Out :=
  s.branchIf (s.psw.holds c.cond) (disp.signExtend 32) 3

/-- BRA (1) `BRA.S` (R442). -/
def execBraS (dist : BitVec 3) (s : State) : Out := s.branch (shortDistance dist)

/-- BRA (2) `BRA.B` (R442). -/
def execBraB (disp : BitVec 8) (s : State) : Out := s.branch (disp.signExtend 32)

/-- BRA (3) `BRA.W` (R442). -/
def execBraW (disp : BitVec 16) (s : State) : Out := s.branch (disp.signExtend 32)

/-- BRA (4) `BRA.A` (R442). -/
def execBraA (disp : BitVec 24) (s : State) : Out := s.branch (disp.signExtend 32)

/-- BRA (5) `BRA.L Rs` (R442). -/
def execBraL (rs : Reg) (s : State) : Out := s.branch (s.reg rs)

/-- BSR (1) `BSR.W` (R443). -/
def execBsrW (disp : BitVec 16) (s : State) : Out := s.call (s.pc + disp.signExtend 32) 3

/-- BSR (2) `BSR.A` (R443). -/
def execBsrA (disp : BitVec 24) (s : State) : Out := s.call (s.pc + disp.signExtend 32) 4

/-- BSR (3) `BSR.L Rs`: Rs is read before SP goes down (R443, D19, log entry 30). -/
def execBsrL (rs : Reg) (s : State) : Out := s.call (s.pc + s.reg rs) 2

/-- `JMP Rs` (R444). -/
def execJmp (rs : Reg) (s : State) : Out := .next (s.goto (s.reg rs))

/-- `JSR Rs`: Rs is read before SP goes down (R445, D19, log entry 30). -/
def execJsr (rs : Reg) (s : State) : Out := s.call (s.reg rs) 2

/-- `RTS` (R446). -/
def execRts (s : State) : Out := s.popWord fun v t => .next (t.goto v)

/-- The frame size of RTSD in bytes (R447). -/
def frameSize (imm : BitVec 8) : Word := 4 * imm.setWidth 32

/-- RTSD (1) `RTSD #UIMM:8` (R447). -/
def execRtsd (imm : BitVec 8) (s : State) : Out :=
  s.load (s.sp + frameSize imm) .l fun v => .next ((s.setSp (s.sp + frameSize imm + 4)).goto v)

/-- RTSD (2) `RTSD #UIMM:8, Rd-Rd2`: the registers lie at the top of the frame, below the return address (R447). -/
def execRtsdRange (imm : BitVec 8) (rd : Reg) (rd2 : Reg) (s : State) : Out :=
  let rs := regRange rd rd2
  if rd ≤ rd2 ∧ rs.length ≤ imm.toNat then
    let top := s.sp + frameSize imm
    s.loadAll (longwords (top - 4 * BitVec.ofNat 32 rs.length) (rs.length + 1)) fun vs =>
      .next (((s.setSp (top + 4)).setRegs rs vs).goto (vs.getLastD 0))
  else .refused .stackFrame

end Sys2Proof.Machine
end

