-- ==== Sys2Proof/Machine/Dsp.lean ====
section
/-! DEFINITION. The DSP instructions (spec/48_dsp.md R570 to R580), one meaning per constructor. -/

namespace Sys2Proof.Machine

/-- The signed upper half of a register (R570). -/
def highHalf (v : Word) : Int := (v.extractLsb' 16 16).toInt

/-- The signed lower half of a register (R570). -/
def lowHalf (v : Word) : Int := (v.extractLsb' 0 16).toInt

/-- A product aligned at b16 of ACC (R571, R573). -/
def alignedProduct (a b : Int) : BitVec 64 := BitVec.ofInt 64 (a * b) <<< 16

/-- Write ACC and go on; every DSP instruction has 3 bytes. -/
def State.assignAcc (s : State) (v : BitVec 64) : Out := .next ({ s with acc := v }.advance 3)

/-- `MACHI Rs, Rs2` (R571). -/
def execMachi (rs : Reg) (rs2 : Reg) (s : State) : Out :=
  s.assignAcc (s.acc + alignedProduct (highHalf (s.reg rs)) (highHalf (s.reg rs2)))

/-- `MACLO Rs, Rs2` (R572). -/
def execMaclo (rs : Reg) (rs2 : Reg) (s : State) : Out :=
  s.assignAcc (s.acc + alignedProduct (lowHalf (s.reg rs)) (lowHalf (s.reg rs2)))

/-- `MULHI Rs, Rs2` (R573). -/
def execMulhi (rs : Reg) (rs2 : Reg) (s : State) : Out :=
  s.assignAcc (alignedProduct (highHalf (s.reg rs)) (highHalf (s.reg rs2)))

/-- `MULLO Rs, Rs2` (R574). -/
def execMullo (rs : Reg) (rs2 : Reg) (s : State) : Out :=
  s.assignAcc (alignedProduct (lowHalf (s.reg rs)) (lowHalf (s.reg rs2)))

/-- `MVFACHI Rd` (R575). -/
def execMvfachi (rd : Reg) (s : State) : Out := s.assign rd (s.acc.extractLsb' 32 32) 3

/-- `MVFACMI Rd` (R576). -/
def execMvfacmi (rd : Reg) (s : State) : Out := s.assign rd (s.acc.extractLsb' 16 32) 3

/-- `MVTACHI Rs` (R577). -/
def execMvtachi (rs : Reg) (s : State) : Out := s.assignAcc (s.reg rs ++ s.acc.extractLsb' 0 32)

/-- `MVTACLO Rs` (R578). -/
def execMvtaclo (rs : Reg) (s : State) : Out := s.assignAcc (s.acc.extractLsb' 32 32 ++ s.reg rs)

/-- The 64-bit shifted accumulator plus half a unit, not wrapped (R579, D21, log entry 28). -/
def racwRounded (acc : BitVec 64) (n : Nat) : Int := (acc <<< n).toInt + 2 ^ 31

/-- ACC after RACW (R579). -/
def racwResult (t : Int) : BitVec 64 :=
  if 0x00007FFF00000000 < t then 0x00007FFF00000000
  else if t < -0x0000800000000000 then 0xFFFF800000000000
  else BitVec.ofInt 64 t &&& 0xFFFFFFFF00000000

/-- `RACW #IMM:1`: the code holds the count minus 1 (R579). -/
def execRacw (imm : BitVec 1) (s : State) : Out := s.assignAcc (racwResult (racwRounded s.acc (imm.toNat + 1)))

end Sys2Proof.Machine
end

