-- ==== Sys2Proof/Machine/FpArith.lean ====
section
/-! DEFINITION. Single-precision arithmetic: classes, rounding and events (spec/42_floating_point.md R320 to R332,
R340). Every result is computed exactly over Nat and Int and rounded once. Where the bits of a number sit is
PRESUMED (log entry 36, G4). -/

namespace Sys2Proof.Machine

/-! ### Format and classes (R320) -/

/-- The biased exponent E. -/
def fpExponent (v : Word) : Nat := (v.extractLsb' 23 8).toNat

/-- The fraction F. -/
def fpFraction (v : Word) : Nat := (v.extractLsb' 0 23).toNat

/-- E = 255 and F is not 0. -/
def isNaN (v : Word) : Bool := fpExponent v == 255 && fpFraction v != 0

/-- A NaN with b22 = 0. -/
def isSNaN (v : Word) : Bool := isNaN v && !v.getLsbD 22

/-- A NaN with b22 = 1. -/
def isQNaN (v : Word) : Bool := isNaN v && v.getLsbD 22

/-- E = 255 and F = 0. -/
def isInf (v : Word) : Bool := fpExponent v == 255 && fpFraction v == 0

/-- E = 0 and F is not 0. -/
def isDenormal (v : Word) : Bool := fpExponent v == 0 && fpFraction v != 0

/-- +0 or -0. -/
def isZero (v : Word) : Bool := fpExponent v == 0 && fpFraction v == 0

/-- The 24-bit significand of a normalized number: its magnitude is significand x 2^(E-150). -/
def significand (v : Word) : Nat := 2 ^ 23 + fpFraction v

/-- A sign and a magnitude pattern b30 to b0. -/
def signed (neg : Bool) (mag : Nat) : Word := BitVec.ofBool neg ++ BitVec.ofNat 31 mag

/-- A zero of the given sign. -/
def signedZero (neg : Bool) : Word := signed neg 0

/-- An infinity of the given sign. -/
def signedInf (neg : Bool) : Word := signed neg 0x7F800000

/-- The largest finite magnitude with the given sign. -/
def signedMax (neg : Bool) : Word := signed neg 0x7F7FFFFF

/-- `quiet`: b22 becomes 1 (R327). -/
def quiet (v : Word) : Word := v ||| 0x00400000

/-- With DN = 1 a denormalized operand is a zero of its sign (R321). -/
def flushDenormal (v : Word) : Word := if isDenormal v then signedZero v.msb else v

/-- The result of an invalid operation on no NaN (R327). -/
def defaultNaN : Word := 0x7FFFFFFF

/-! ### Rounding (R323) -/

/-- Whether a quotient with remainder r of the divisor d is rounded up in magnitude (R41, R323). -/
def roundsUp (rm : BitVec 2) (neg odd : Bool) (r d : Nat) : Bool :=
  if rm = 0#2 then decide (d < 2 * r) || (decide (2 * r = d) && odd)
  else if rm = 1#2 then false
  else if rm = 2#2 then !neg && decide (r ≠ 0)
  else neg && decide (r ≠ 0)

/-- The magnitude n / d rounded to an integer, and whether it is inexact. -/
def roundQuotient (rm : BitVec 2) (neg : Bool) (n d : Nat) : Nat × Bool :=
  let q := n / d
  let r := n % d
  (if roundsUp rm neg (q % 2 == 1) r d then q + 1 else q, r != 0)

/-- num x 2^e over den as a fraction of naturals. -/
def scaleFraction (num den : Nat) (e : Int) : Nat × Nat := (num * 2 ^ e.toNat, den * 2 ^ (-e).toNat)

/-- The floor of log2 (num / den), for positive num and den. -/
def floorLog (num den : Nat) : Int :=
  let l : Int := (num.log2 : Int) - (den.log2 : Int)
  if den * 2 ^ l.toNat ≤ num * 2 ^ (-l).toNat then l else l - 1

/-- The overflow result of Table 1.1 (R328). -/
def overflowResult (rm : BitVec 2) (neg : Bool) : Word :=
  if rm = 0#2 then signedInf neg
  else if rm = 1#2 then signedMax neg
  else if rm = 2#2 then if neg then signedMax neg else signedInf neg
  else if neg then signedInf neg else signedMax neg

/-- The result and events of the nonzero exact value (-1)^neg x num / den x 2^e: underflow is tested on the exact
value, overflow on the rounded one (R323, R324, R328, R329, R330, D16, D17; log entry 22). -/
def fpResult (f : Fpsw) (neg : Bool) (num den : Nat) (e : Int) : Word × Events :=
  let fl := floorLog num den
  let exp := fl + e
  if exp < -126 then (signedZero neg, { u := true, e := !f.dn })
  else
    let (n, d) := scaleFraction num den (23 - fl)
    let (q, inexact) := roundQuotient f.rm neg n d
    let mag := (exp + 126).toNat * 2 ^ 23 + q
    if 0x7F800000 ≤ mag then (overflowResult f.rm neg, { o := true, x := !f.eo })
    else (signed neg mag, { x := inexact })

/-! ### The arithmetic of two operands -/

/-- The precedence of operand classes, NaN results and denormalized operands (R321, R322, R327, D15). `d` is the
dest operand, `s` the src operand. The candidate of unimplemented processing is never written (R331). -/
def fpArith (f : Fpsw) (d s : Word) (k : Word → Word → Word × Events) : Word × Events :=
  if isSNaN d then (quiet d, { v := true })
  else if isSNaN s then (quiet s, { v := true })
  else if isQNaN d then (d, {})
  else if isQNaN s then (s, {})
  else if !f.dn && (isDenormal d || isDenormal s) then (d, { e := true })
  else k (flushDenormal d) (flushDenormal s)

/-- The signed significand. -/
def signedSignificand (v : Word) : Int := if v.msb then -(significand v : Int) else significand v

/-- The exact sum of two normalized numbers, in units of 2^(min E - 150) (R335). -/
def alignedSum (d s : Word) : Int :=
  let m := min (fpExponent d) (fpExponent s)
  signedSignificand d * 2 ^ (fpExponent d - m) + signedSignificand s * 2 ^ (fpExponent s - m)

/-- The sign of an exact zero sum of operands of different signs: - only toward -∞ (R335). -/
def zeroSumNegative (f : Fpsw) : Bool := f.rm == 3#2

/-- The case table of FADD (R335). -/
def fpAddCases (f : Fpsw) (d s : Word) : Word × Events :=
  if isInf d then
    if isInf s && d.msb != s.msb then (defaultNaN, { v := true }) else (d, {})
  else if isInf s then (s, {})
  else if isZero d && isZero s then (if d.msb == s.msb then d else signedZero (zeroSumNegative f), {})
  else if isZero d then (s, {})
  else if isZero s then (d, {})
  else
    let sum := alignedSum d s
    if sum = 0 then (signedZero (zeroSumNegative f), {})
    else fpResult f (decide (sum < 0)) sum.natAbs 1 ((min (fpExponent d) (fpExponent s) : Nat) - 150)

/-- FADD (R335). -/
def fpAdd (f : Fpsw) (d s : Word) : Word × Events := fpArith f d s (fpAddCases f)

/-- FSUB: its case table is that of FADD with the sign of src inverted (R339). -/
def fpSub (f : Fpsw) (d s : Word) : Word × Events := fpArith f d s fun d s => fpAddCases f d (s ^^^ 0x80000000)

/-- FMUL (R338). -/
def fpMul (f : Fpsw) (d s : Word) : Word × Events :=
  fpArith f d s fun d s =>
    let neg := d.msb ^^ s.msb
    if (isInf d && isZero s) || (isZero d && isInf s) then (defaultNaN, { v := true })
    else if isInf d || isInf s then (signedInf neg, {})
    else if isZero d || isZero s then (signedZero neg, {})
    else fpResult f neg (significand d * significand s) 1 ((fpExponent d + fpExponent s : Nat) - 300)

/-- FDIV: dest is the dividend (R332, R337). With DN = 1 a denormalized dividend counts as zero for a zero divisor too: an
invalid operation, no division by zero (DESIGN CHOICE, log entry 38). -/
def fpDiv (f : Fpsw) (d s : Word) : Word × Events :=
  fpArith f d s fun d s =>
    let neg := d.msb ^^ s.msb
    if (isInf d && isInf s) || (isZero d && isZero s) then (defaultNaN, { v := true })
    else if isInf d then (signedInf neg, {})
    else if isInf s then (signedZero neg, {})
    else if isZero s then (signedInf neg, { z := true })
    else if isZero d then (signedZero neg, {})
    else fpResult f neg (significand d) (significand s) ((fpExponent d : Int) - fpExponent s)

/-! ### Comparison -/

/-- The relation of src2 to src (R336). -/
inductive FpOrder where
  | greater
  | less
  | equal
  | unordered
  deriving DecidableEq, Repr

/-- A number's place on the line, ±0 at 0 and the infinities outermost. -/
def orderKey (v : Word) : Int :=
  let mag := ((v.extractLsb' 0 31).toNat : Int)
  if v.msb then -mag else mag

/-- FCMP: the relation of src2 (`a`) to src (`b`) and the events (R336). -/
def fpCompare (f : Fpsw) (a b : Word) : FpOrder × Events :=
  if isSNaN a || isSNaN b then (.unordered, { v := true })
  else if isQNaN a || isQNaN b then (.unordered, {})
  else if !f.dn && (isDenormal a || isDenormal b) then (.unordered, { e := true })
  else
    let x := orderKey (flushDenormal a)
    let y := orderKey (flushDenormal b)
    (if x = y then .equal else if x < y then .less else .greater, {})

/-- The flags of a comparison (R336). -/
def Psw.setOrder (p : Psw) : FpOrder → Psw
  | .greater => { p with o := false, s := false, z := false }
  | .less => { p with o := false, s := true, z := false }
  | .equal => { p with o := false, s := false, z := true }
  | .unordered => { p with o := true, s := false, z := false }

/-! ### Conversions -/

/-- The value of an invalid conversion (R340). -/
def conversionLimit (neg : Bool) : Word := if neg then 0x80000000 else 0x7FFFFFFF

/-- `f2i`: FTOI and ROUND (R340). -/
def fpToInt (f : Fpsw) (rm : BitVec 2) (v : Word) : Word × Events :=
  if isNaN v || isInf v then (conversionLimit v.msb, { v := true })
  else if isDenormal v then (0, { e := !f.dn })
  else if isZero v then (0, {})
  else if 158 ≤ fpExponent v then (conversionLimit v.msb, { v := v != 0xCF000000 })
  else
    let (n, d) := scaleFraction (significand v) 1 ((fpExponent v : Int) - 150)
    let (q, inexact) := roundQuotient rm v.msb n d
    (if v.msb then -(BitVec.ofNat 32 q) else BitVec.ofNat 32 q, { x := inexact })

/-- ITOF (R343). -/
def intToFp (f : Fpsw) (v : Word) : Word × Events :=
  if v = 0 then (0, {}) else fpResult f v.msb v.toInt.natAbs 1 0

/-- Z and S of a floating-point result: Z is a zero of either sign (R335). -/
def Psw.setFpResult (p : Psw) (r : Word) : Psw := { p with z := isZero r, s := r.msb }

end Sys2Proof.Machine
end

