-- ==== Sys2Proof/Machine/Float.lean ====
section
/-! DEFINITION. The floating-point instructions (spec/42_floating_point.md R325, R333 to R343), one meaning per
constructor. -/

namespace Sys2Proof.Machine

/-! ### The common frame -/

/-- Without an FPU the encodings are undefined instructions (R47, D6, log entry 21). -/
def State.withFpu (s : State) (k : Out) : Out := if s.product.hasFpu then k else s.raise .undefined

/-- Steps 2 to 8 of `fp_execute` once the events are known: FPSW records them; a trap leaves everything else
unchanged, else the instruction completes (R325, R333). -/
def State.fpExecute (s : State) (ev : Events) (k : State → Out) : Out :=
  let t := { s with fpsw := s.fpsw.record ev }
  if s.fpsw.traps ev then t.raise .floating else k t

/-- `fp_execute` of an instruction that writes rd and Z, S (R325, R335). -/
def State.fpFinish (s : State) (rd : Reg) (r : Word × Events) (n : Nat) : Out :=
  s.fpExecute r.2 fun t => t.finish rd (r.1, t.psw.setFpResult r.1) n

/-- `fp_execute` of an instruction that writes rd, with Z and S of an integer result (R341). -/
def State.fpFinishInt (s : State) (rd : Reg) (r : Word × Events) (n : Nat) : Out :=
  s.fpExecute r.2 fun t => t.finish rd (r.1, t.psw.setZS r.1) n

/-- `fp_execute` of FCMP (R336). -/
def State.fpFinishCompare (s : State) (r : FpOrder × Events) (n : Nat) : Out :=
  s.fpExecute r.2 fun t => t.flagsOnly (t.psw.setOrder r.1) n

/-! ### FADD, FCMP, FDIV, FMUL, FSUB -/

/-- `FADD #IMM:32, Rd` (R335). -/
def execFaddImm (imm : BitVec 32) (rd : Reg) (s : State) : Out :=
  s.withFpu (s.fpFinish rd (fpAdd s.fpsw (s.reg rd) imm) 7)

/-- `FADD` with a register or longword source (R335). -/
def execFaddRm (src : RegOrMem) (rd : Reg) (s : State) : Out :=
  s.withFpu (s.withL src fun v => s.fpFinish rd (fpAdd s.fpsw (s.reg rd) v) (3 + src.len))

/-- `FCMP #IMM:32, Rs2` (R336). -/
def execFcmpImm (imm : BitVec 32) (rs2 : Reg) (s : State) : Out :=
  s.withFpu (s.fpFinishCompare (fpCompare s.fpsw (s.reg rs2) imm) 7)

/-- `FCMP` with a register or longword source (R336). -/
def execFcmpRm (src : RegOrMem) (rs2 : Reg) (s : State) : Out :=
  s.withFpu (s.withL src fun v => s.fpFinishCompare (fpCompare s.fpsw (s.reg rs2) v) (3 + src.len))

/-- `FDIV #IMM:32, Rd` (R337). -/
def execFdivImm (imm : BitVec 32) (rd : Reg) (s : State) : Out :=
  s.withFpu (s.fpFinish rd (fpDiv s.fpsw (s.reg rd) imm) 7)

/-- `FDIV` with a register or longword source (R337). -/
def execFdivRm (src : RegOrMem) (rd : Reg) (s : State) : Out :=
  s.withFpu (s.withL src fun v => s.fpFinish rd (fpDiv s.fpsw (s.reg rd) v) (3 + src.len))

/-- `FMUL #IMM:32, Rd`: ACC is undefined afterwards, also when it traps (R338, D14, log entry 23). -/
def execFmulImm (imm : BitVec 32) (rd : Reg) (s : State) : Out :=
  s.withFpu (s.clobberAcc.fpFinish rd (fpMul s.fpsw (s.reg rd) imm) 7)

/-- `FMUL` with a register or longword source (R338). -/
def execFmulRm (src : RegOrMem) (rd : Reg) (s : State) : Out :=
  s.withFpu (s.withL src fun v => s.clobberAcc.fpFinish rd (fpMul s.fpsw (s.reg rd) v) (3 + src.len))

/-- `FSUB #IMM:32, Rd` (R339). -/
def execFsubImm (imm : BitVec 32) (rd : Reg) (s : State) : Out :=
  s.withFpu (s.fpFinish rd (fpSub s.fpsw (s.reg rd) imm) 7)

/-- `FSUB` with a register or longword source (R339). -/
def execFsubRm (src : RegOrMem) (rd : Reg) (s : State) : Out :=
  s.withFpu (s.withL src fun v => s.fpFinish rd (fpSub s.fpsw (s.reg rd) v) (3 + src.len))

/-! ### FTOI, ROUND, ITOF -/

/-- `FTOI`: always toward 0 (R341). -/
def execFtoiRm (src : RegOrMem) (rd : Reg) (s : State) : Out :=
  s.withFpu (s.withL src fun v => s.fpFinishInt rd (fpToInt s.fpsw 1#2 v) (3 + src.len))

/-- `ROUND`: by FPSW.RM (R342). -/
def execRoundRm (src : RegOrMem) (rd : Reg) (s : State) : Out :=
  s.withFpu (s.withL src fun v => s.fpFinishInt rd (fpToInt s.fpsw s.fpsw.rm v) (3 + src.len))

/-- `ITOF` with a register or .UB memory source (R343). -/
def execItofRm (src : RegOrMem) (rd : Reg) (s : State) : Out :=
  s.withFpu (s.withRm src fun v => s.fpFinish rd (intToFp s.fpsw v) (3 + src.len))

/-- `ITOF` with a memory source and `mi` (R343). -/
def execItofMx (mx : Memex) (rs : Reg) (d : Dsp) (rd : Reg) (s : State) : Out :=
  s.withFpu (s.withMx mx rs d fun v => s.fpFinish rd (intToFp s.fpsw v) (4 + d.len))

end Sys2Proof.Machine
end

