-- ==== Sys2Proof/Machine/Str.lean ====
section
/-! DEFINITION. RMPA and the string instructions (spec/46_string.md R500 to R510, spec/41_arithmetic_logic_b.md
R260). One execution is one iteration: the PC stays at the instruction until the last one (R501, R608, log entry
15). -/

namespace Sys2Proof.Machine

/-! ### Iterations -/

/-- With R3 = 0 the instruction is ignored, else one iteration runs (R500). -/
def State.unlessDone (s : State) (k : Out) : Out := if s.reg 3 = 0 then .next (s.advance 2) else k

/-- R1, R2 and R3 after an iteration (R500). -/
def State.setPointers (s : State) (r1 r2 r3 : Word) : State := ((s.setReg 1 r1).setReg 2 r2).setReg 3 r3

/-- End the iteration: with the last one the PC goes on, else it stays (R501). -/
def State.endIteration (s : State) (last : Bool) : State := if last then s.advance 2 else s

/-- End the iteration of an instruction that leaves R1 and R2 undefined when it ends (R503, R506, D14). -/
def State.endAndClobber (s : State) (last : Bool) : State :=
  if last then ((s.clobberReg 1).clobberReg 2).advance 2 else s

/-- A byte would be written before it is read: the distance between the pointers is below the count (R502). -/
def overlaps (distance count : Word) : Bool := distance != 0 && distance < count

/-- One moved byte: SMOVB, SMOVF, SMOVU (R504, R505, R506). -/
def State.moveByte (s : State) (step : Word) (k : Word → State → Out) : Out :=
  s.load (s.reg 2) .b fun v =>
    s.store (s.reg 1) .b v fun t => k v (t.setPointers (s.reg 1 + step) (s.reg 2 + step) (s.reg 3 - 1))

/-- One comparison of an element with R2: SUNTIL and SWHILE (R508, R509). -/
def State.searchElement (s : State) (sz : Size) (stops : Word → Bool) : Out :=
  s.load (s.reg 1) sz fun v =>
    let t := (s.withPsw (s.psw.setCompare v (s.reg 2))).setPointers (s.reg 1 + sz.word) (s.reg 2) (s.reg 3 - 1)
    .next (t.endIteration (stops v || s.reg 3 - 1 == 0))

/-! ### The string instructions -/

/-- `SCMPU` (R503). -/
def execScmpu (s : State) : Out :=
  s.unlessDone (s.load (s.reg 1) .b fun a => s.load (s.reg 2) .b fun b =>
    let t := (s.withPsw (s.psw.setCompare a b)).setPointers (s.reg 1 + 1) (s.reg 2 + 1) (s.reg 3 - 1)
    .next (t.endAndClobber (a != b || a == 0 || s.reg 3 - 1 == 0)))

/-- `SMOVB` (R502, R504). -/
def execSmovb (s : State) : Out :=
  s.unlessDone (if overlaps (s.reg 2 - s.reg 1) (s.reg 3) then .refused .stringOverlap
    else s.moveByte (-1) fun _ t => .next (t.endIteration (s.reg 3 - 1 == 0)))

/-- `SMOVF` (R502, R505). -/
def execSmovf (s : State) : Out :=
  s.unlessDone (if overlaps (s.reg 1 - s.reg 2) (s.reg 3) then .refused .stringOverlap
    else s.moveByte 1 fun _ t => .next (t.endIteration (s.reg 3 - 1 == 0)))

/-- `SMOVU` (R502, R506). -/
def execSmovu (s : State) : Out :=
  s.unlessDone (if overlaps (s.reg 1 - s.reg 2) (s.reg 3) then .refused .stringOverlap
    else s.moveByte 1 fun v t => .next (t.endAndClobber (v == 0 || s.reg 3 - 1 == 0)))

/-- `SSTR.size` (R507). -/
def execSstr (sz : Size) (s : State) : Out :=
  s.unlessDone (s.store (s.reg 1) sz (s.reg 2) fun t =>
    .next ((t.setPointers (s.reg 1 + sz.word) (s.reg 2) (s.reg 3 - 1)).endIteration (s.reg 3 - 1 == 0)))

/-- `SUNTIL.size` (R508). -/
def execSuntil (sz : Size) (s : State) : Out := s.unlessDone (s.searchElement sz fun v => v == s.reg 2)

/-- `SWHILE.size` (R509). -/
def execSwhile (sz : Size) (s : State) : Out := s.unlessDone (s.searchElement sz fun v => v != s.reg 2)

/-! ### RMPA (R260) -/

/-- The 80-bit sum R6[15:0]:R5:R4. -/
def State.rmpaSum (s : State) : BitVec 80 := (s.reg 6).extractLsb' 0 16 ++ s.reg 5 ++ s.reg 4

/-- Write the sum: the upper half of R6 is the sign extension of its lower half. -/
def State.setRmpaSum (s : State) (v : BitVec 80) : State :=
  ((s.setReg 4 (v.extractLsb' 0 32)).setReg 5 (v.extractLsb' 32 32)).setReg 6 ((v.extractLsb' 64 16).signExtend 32)

/-- What the spec asks of the program at the start: a count of at most 10000h, and an R6 of FFFFFFFFh where R5:R4 is
negative and of 00000000h where it is not (R260, P4). -/
def State.rmpaAdmits (s : State) : Bool :=
  s.reg 3 ≤ 0x10000 && s.reg 6 == if (s.reg 5).msb then 0xFFFFFFFF else 0

/-- The RMPA at the PC is under way: a later iteration, or one resumed after an exception (R501, log entry 14). -/
def State.rmpaUnderWay (s : State) : Bool := s.rmpa.running == some s.pc

/-- The sum after one iteration: exact product, 80-bit wrap. -/
def rmpaStep (acc : BitVec 80) (a b : Word) : BitVec 80 := BitVec.ofInt 80 (acc.toInt + a.toInt * b.toInt)

/-- The end of RMPA: S and O from the sum; R1, R2 and ACC are undefined. -/
def State.rmpaEnd (s : State) (acc : BitVec 80) : State :=
  let p := { s.psw with s := acc.msb, o := decide (acc.toInt < -2 ^ 63 ∨ 2 ^ 63 - 1 < acc.toInt) }
  (((((s.withPsw p).clobberReg 1).clobberReg 2).clobberAcc).markRmpa none).advance 2

/-- `RMPA.size`: a start asks `rmpaAdmits` of its operands, an iteration of one under way goes on from whatever the
registers hold (R260, R501, P6). -/
def execRmpa (sz : Size) (s : State) : Out :=
  (s.markRmpa none).unlessDone (if s.rmpaUnderWay || s.rmpaAdmits then
      s.load (s.reg 1) sz fun a => s.load (s.reg 2) sz fun b =>
        let acc := rmpaStep s.rmpaSum (sz.signExtend a) (sz.signExtend b)
        let t := (s.setPointers (s.reg 1 + sz.word) (s.reg 2 + sz.word) (s.reg 3 - 1)).setRmpaSum acc
        .next (if s.reg 3 - 1 == 0 then t.rmpaEnd acc else t.markRmpa (some s.pc))
    else .refused .rmpaOperands)

end Sys2Proof.Machine
end

