-- ==== Sys2Proof/Machine/System.lean ====
section
/-! DEFINITION. The system manipulation instructions (spec/47_system.md R530 to R558), one meaning per constructor. -/

namespace Sys2Proof.Machine

/-- Set or clear a bit of the PSW by name; in user mode I and U are left as they are (R34, R531). -/
def State.changeBit (s : State) (cb : PswBit) (v : Bool) : State :=
  if s.psw.pm && cb.restricted then s else s.withPsw (s.psw.setBit cb v)

/-- `SETPSW` (R531). -/
def execSetpsw (cb : PswBit) (s : State) : Out := .next ((s.changeBit cb true).advance 2)

/-- `CLRPSW` (R536). -/
def execClrpsw (cb : PswBit) (s : State) : Out := .next ((s.changeBit cb false).advance 2)

/-- `MVFC Rx, Rd` (R540, R542). -/
def execMvfc (cr : CReg) (rd : Reg) (s : State) : Out := s.assign rd (s.ctrlRead cr) 3

/-- MVTC (1) `MVTC #SIMM/#IMM, Rx` (R541, R543). -/
def execMvtcImm (imm : Simm) (cr : CReg) (s : State) : Out :=
  .next ((s.ctrlWrite cr imm.value).advance (3 + imm.len))

/-- MVTC (2) `MVTC Rs, Rx` (R541, R543). -/
def execMvtcR (rs : Reg) (cr : CReg) (s : State) : Out := .next ((s.ctrlWrite cr (s.reg rs)).advance 3)

/-- `MVTIPL #IMM:4`; where it is not installed it is an undefined instruction in both modes (R544, D20, log entry
21). -/
def execMvtipl (imm : BitVec 4) (s : State) : Out :=
  if s.product.hasMvtipl then
    s.privileged (.next ((s.withPsw { s.psw with ipl := maskLevel s.product.ipl3 imm }).advance 3))
  else s.raise .undefined

/-- `BRK`: unconditional trap 0, the saved PC is the next instruction (R546). -/
def execBrk (s : State) : Out := s.enter (.trap 0) (s.after 1)

/-- `INT #IMM:8`: unconditional trap, the saved PC is the next instruction (R547). -/
def execInt (imm : BitVec 8) (s : State) : Out := s.enter (.trap imm) (s.after 3)

/-- `RTE` (R550). -/
def execRte (s : State) : Out := s.privileged s.returnFromStack

/-- `RTFI` (R551). -/
def execRtfi (s : State) : Out := s.privileged (.next s.returnFromFast)

/-- `WAIT`: I becomes 1 and no instruction executes until an event is accepted (R556, D13, log entry 27). -/
def execWait (s : State) : Out :=
  s.privileged (.next ({ s.withPsw { s.psw with i := true } with waiting := true }.advance 2))

end Sys2Proof.Machine
end

