-- ==== Sys2Proof/Machine/Dispatch.lean ====
section
/-! DEFINITION. The meaning of every instruction, one arm per constructor of Instr (spec/opcode_table.json). -/

namespace Sys2Proof.Machine

/-- The effect of an instruction whose first byte is at the PC. -/
def exec (i : Instr) (s : State) : Host.Outcome State Fault Refusal :=
  match i with
  | .absR rd => Sys2Proof.Machine.execAbsR rd s
  | .absRR rs rd => Sys2Proof.Machine.execAbsRR rs rd s
  | .adcImm imm rd => Sys2Proof.Machine.execAdcImm imm rd s
  | .adcRR rs rd => Sys2Proof.Machine.execAdcRR rs rd s
  | .adcMem rs d rd => Sys2Proof.Machine.execAdcMem rs d rd s
  | .addUimm4 imm rd => Sys2Proof.Machine.execAddUimm4 imm rd s
  | .addRm src rd => Sys2Proof.Machine.execAddRm src rd s
  | .addMx mx rs d rd => Sys2Proof.Machine.execAddMx mx rs d rd s
  | .addImm3 imm rs2 rd => Sys2Proof.Machine.execAddImm3 imm rs2 rd s
  | .addRRR rs rs2 rd => Sys2Proof.Machine.execAddRRR rs rs2 rd s
  | .andUimm4 imm rd => Sys2Proof.Machine.execAndUimm4 imm rd s
  | .andImm imm rd => Sys2Proof.Machine.execAndImm imm rd s
  | .andRm src rd => Sys2Proof.Machine.execAndRm src rd s
  | .andMx mx rs d rd => Sys2Proof.Machine.execAndMx mx rs d rd s
  | .andRRR rs rs2 rd => Sys2Proof.Machine.execAndRRR rs rs2 rd s
  | .cmpUimm4 imm rs2 => Sys2Proof.Machine.execCmpUimm4 imm rs2 s
  | .cmpUimm8 imm rs2 => Sys2Proof.Machine.execCmpUimm8 imm rs2 s
  | .cmpImm imm rs2 => Sys2Proof.Machine.execCmpImm imm rs2 s
  | .cmpRm src rs2 => Sys2Proof.Machine.execCmpRm src rs2 s
  | .cmpMx mx rs d rs2 => Sys2Proof.Machine.execCmpMx mx rs d rs2 s
  | .divImm imm rd => Sys2Proof.Machine.execDivImm imm rd s
  | .divRm src rd => Sys2Proof.Machine.execDivRm src rd s
  | .divMx mx rs d rd => Sys2Proof.Machine.execDivMx mx rs d rd s
  | .divuImm imm rd => Sys2Proof.Machine.execDivuImm imm rd s
  | .divuRm src rd => Sys2Proof.Machine.execDivuRm src rd s
  | .divuMx mx rs d rd => Sys2Proof.Machine.execDivuMx mx rs d rd s
  | .emulImm imm rd => Sys2Proof.Machine.execEmulImm imm rd s
  | .emulRm src rd => Sys2Proof.Machine.execEmulRm src rd s
  | .emulMx mx rs d rd => Sys2Proof.Machine.execEmulMx mx rs d rd s
  | .emuluImm imm rd => Sys2Proof.Machine.execEmuluImm imm rd s
  | .emuluRm src rd => Sys2Proof.Machine.execEmuluRm src rd s
  | .emuluMx mx rs d rd => Sys2Proof.Machine.execEmuluMx mx rs d rd s
  | .maxImm imm rd => Sys2Proof.Machine.execMaxImm imm rd s
  | .maxRm src rd => Sys2Proof.Machine.execMaxRm src rd s
  | .maxMx mx rs d rd => Sys2Proof.Machine.execMaxMx mx rs d rd s
  | .minImm imm rd => Sys2Proof.Machine.execMinImm imm rd s
  | .minRm src rd => Sys2Proof.Machine.execMinRm src rd s
  | .minMx mx rs d rd => Sys2Proof.Machine.execMinMx mx rs d rd s
  | .mulUimm4 imm rd => Sys2Proof.Machine.execMulUimm4 imm rd s
  | .mulImm imm rd => Sys2Proof.Machine.execMulImm imm rd s
  | .mulRm src rd => Sys2Proof.Machine.execMulRm src rd s
  | .mulMx mx rs d rd => Sys2Proof.Machine.execMulMx mx rs d rd s
  | .mulRRR rs rs2 rd => Sys2Proof.Machine.execMulRRR rs rs2 rd s
  | .negR rd => Sys2Proof.Machine.execNegR rd s
  | .negRR rs rd => Sys2Proof.Machine.execNegRR rs rd s
  | .nop => Sys2Proof.Machine.execNop s
  | .notR rd => Sys2Proof.Machine.execNotR rd s
  | .notRR rs rd => Sys2Proof.Machine.execNotRR rs rd s
  | .orUimm4 imm rd => Sys2Proof.Machine.execOrUimm4 imm rd s
  | .orImm imm rd => Sys2Proof.Machine.execOrImm imm rd s
  | .orRm src rd => Sys2Proof.Machine.execOrRm src rd s
  | .orMx mx rs d rd => Sys2Proof.Machine.execOrMx mx rs d rd s
  | .orRRR rs rs2 rd => Sys2Proof.Machine.execOrRRR rs rs2 rd s
  | .rmpa sz => Sys2Proof.Machine.execRmpa sz s
  | .rolc rd => Sys2Proof.Machine.execRolc rd s
  | .rorc rd => Sys2Proof.Machine.execRorc rd s
  | .rotlImm imm rd => Sys2Proof.Machine.execRotlImm imm rd s
  | .rotlRR rs rd => Sys2Proof.Machine.execRotlRR rs rd s
  | .rotrImm imm rd => Sys2Proof.Machine.execRotrImm imm rd s
  | .rotrRR rs rd => Sys2Proof.Machine.execRotrRR rs rd s
  | .sat rd => Sys2Proof.Machine.execSat rd s
  | .satr => Sys2Proof.Machine.execSatr s
  | .sbbRR rs rd => Sys2Proof.Machine.execSbbRR rs rd s
  | .sbbMem rs d rd => Sys2Proof.Machine.execSbbMem rs d rd s
  | .sharImm imm rd => Sys2Proof.Machine.execSharImm imm rd s
  | .sharRR rs rd => Sys2Proof.Machine.execSharRR rs rd s
  | .sharImm3 imm rs2 rd => Sys2Proof.Machine.execSharImm3 imm rs2 rd s
  | .shllImm imm rd => Sys2Proof.Machine.execShllImm imm rd s
  | .shllRR rs rd => Sys2Proof.Machine.execShllRR rs rd s
  | .shllImm3 imm rs2 rd => Sys2Proof.Machine.execShllImm3 imm rs2 rd s
  | .shlrImm imm rd => Sys2Proof.Machine.execShlrImm imm rd s
  | .shlrRR rs rd => Sys2Proof.Machine.execShlrRR rs rd s
  | .shlrImm3 imm rs2 rd => Sys2Proof.Machine.execShlrImm3 imm rs2 rd s
  | .subUimm4 imm rd => Sys2Proof.Machine.execSubUimm4 imm rd s
  | .subRm src rd => Sys2Proof.Machine.execSubRm src rd s
  | .subMx mx rs d rd => Sys2Proof.Machine.execSubMx mx rs d rd s
  | .subRRR rs rs2 rd => Sys2Proof.Machine.execSubRRR rs rs2 rd s
  | .tstImm imm rs2 => Sys2Proof.Machine.execTstImm imm rs2 s
  | .tstRm src rs2 => Sys2Proof.Machine.execTstRm src rs2 s
  | .tstMx mx rs d rs2 => Sys2Proof.Machine.execTstMx mx rs d rs2 s
  | .xorImm imm rd => Sys2Proof.Machine.execXorImm imm rd s
  | .xorRm src rd => Sys2Proof.Machine.execXorRm src rd s
  | .xorMx mx rs d rd => Sys2Proof.Machine.execXorMx mx rs d rd s
  | .faddImm imm rd => Sys2Proof.Machine.execFaddImm imm rd s
  | .faddRm src rd => Sys2Proof.Machine.execFaddRm src rd s
  | .fcmpImm imm rs2 => Sys2Proof.Machine.execFcmpImm imm rs2 s
  | .fcmpRm src rs2 => Sys2Proof.Machine.execFcmpRm src rs2 s
  | .fdivImm imm rd => Sys2Proof.Machine.execFdivImm imm rd s
  | .fdivRm src rd => Sys2Proof.Machine.execFdivRm src rd s
  | .fmulImm imm rd => Sys2Proof.Machine.execFmulImm imm rd s
  | .fmulRm src rd => Sys2Proof.Machine.execFmulRm src rd s
  | .fsubImm imm rd => Sys2Proof.Machine.execFsubImm imm rd s
  | .fsubRm src rd => Sys2Proof.Machine.execFsubRm src rd s
  | .ftoiRm src rd => Sys2Proof.Machine.execFtoiRm src rd s
  | .roundRm src rd => Sys2Proof.Machine.execRoundRm src rd s
  | .itofRm src rd => Sys2Proof.Machine.execItofRm src rd s
  | .itofMx mx rs d rd => Sys2Proof.Machine.execItofMx mx rs d rd s
  | .movStoreD5 sz rs d rd => Sys2Proof.Machine.execMovStoreD5 sz rs d rd s
  | .movLoadD5 sz d rs rd => Sys2Proof.Machine.execMovLoadD5 sz d rs rd s
  | .movUimm4 imm rd => Sys2Proof.Machine.execMovUimm4 imm rd s
  | .movImmD5 sz imm d rd => Sys2Proof.Machine.execMovImmD5 sz imm d rd s
  | .movUimm8 imm rd => Sys2Proof.Machine.execMovUimm8 imm rd s
  | .movImm imm rd => Sys2Proof.Machine.execMovImm imm rd s
  | .movRR sz rs rd => Sys2Proof.Machine.execMovRR sz rs rd s
  | .movImmMem sz imm rd d => Sys2Proof.Machine.execMovImmMem sz imm rd d s
  | .movLoad sz rs d rd => Sys2Proof.Machine.execMovLoad sz rs d rd s
  | .movLoadIdx sz ri rb rd => Sys2Proof.Machine.execMovLoadIdx sz ri rb rd s
  | .movStore sz rs rd d => Sys2Proof.Machine.execMovStore sz rs rd d s
  | .movStoreIdx sz rs ri rb => Sys2Proof.Machine.execMovStoreIdx sz rs ri rb s
  | .movMemMem sz rs ds rd dd => Sys2Proof.Machine.execMovMemMem sz rs ds rd dd s
  | .movStoreAuto mode sz rs rd => Sys2Proof.Machine.execMovStoreAuto mode sz rs rd s
  | .movLoadAuto mode sz rs rd => Sys2Proof.Machine.execMovLoadAuto mode sz rs rd s
  | .movuLoadD5 sz d rs rd => Sys2Proof.Machine.execMovuLoadD5 sz d rs rd s
  | .movuRm sz src rd => Sys2Proof.Machine.execMovuRm sz src rd s
  | .movuLoadIdx sz ri rb rd => Sys2Proof.Machine.execMovuLoadIdx sz ri rb rd s
  | .movuLoadAuto mode sz rs rd => Sys2Proof.Machine.execMovuLoadAuto mode sz rs rd s
  | .pop rd => Sys2Proof.Machine.execPop rd s
  | .popc cr => Sys2Proof.Machine.execPopc cr s
  | .popm rd rd2 => Sys2Proof.Machine.execPopm rd rd2 s
  | .pushR sz rs => Sys2Proof.Machine.execPushR sz rs s
  | .pushMem sz rs d => Sys2Proof.Machine.execPushMem sz rs d s
  | .pushc cr => Sys2Proof.Machine.execPushc cr s
  | .pushm rs rs2 => Sys2Proof.Machine.execPushm rs rs2 s
  | .revl rs rd => Sys2Proof.Machine.execRevl rs rd s
  | .revw rs rd => Sys2Proof.Machine.execRevw rs rd s
  | .sccnd cd sz dst => Sys2Proof.Machine.execSccnd cd sz dst s
  | .stnz imm rd => Sys2Proof.Machine.execStnz imm rd s
  | .stz imm rd => Sys2Proof.Machine.execStz imm rd s
  | .xchgRm src rd => Sys2Proof.Machine.execXchgRm src rd s
  | .xchgMx mx rs d rd => Sys2Proof.Machine.execXchgMx mx rs d rd s
  | .bcndS c dist => Sys2Proof.Machine.execBcndS c dist s
  | .bcndB cd disp => Sys2Proof.Machine.execBcndB cd disp s
  | .bcndW c disp => Sys2Proof.Machine.execBcndW c disp s
  | .braS dist => Sys2Proof.Machine.execBraS dist s
  | .braB disp => Sys2Proof.Machine.execBraB disp s
  | .braW disp => Sys2Proof.Machine.execBraW disp s
  | .braA disp => Sys2Proof.Machine.execBraA disp s
  | .braL rs => Sys2Proof.Machine.execBraL rs s
  | .bsrW disp => Sys2Proof.Machine.execBsrW disp s
  | .bsrA disp => Sys2Proof.Machine.execBsrA disp s
  | .bsrL rs => Sys2Proof.Machine.execBsrL rs s
  | .jmp rs => Sys2Proof.Machine.execJmp rs s
  | .jsr rs => Sys2Proof.Machine.execJsr rs s
  | .rts => Sys2Proof.Machine.execRts s
  | .rtsd imm => Sys2Proof.Machine.execRtsd imm s
  | .rtsdRange imm rd rd2 => Sys2Proof.Machine.execRtsdRange imm rd rd2 s
  | .bclrImmMem imm rd d => Sys2Proof.Machine.execBclrImmMem imm rd d s
  | .bclrRMem rs rd d => Sys2Proof.Machine.execBclrRMem rs rd d s
  | .bclrImm imm rd => Sys2Proof.Machine.execBclrImm imm rd s
  | .bclrRR rs rd => Sys2Proof.Machine.execBclrRR rs rd s
  | .bsetImmMem imm rd d => Sys2Proof.Machine.execBsetImmMem imm rd d s
  | .bsetRMem rs rd d => Sys2Proof.Machine.execBsetRMem rs rd d s
  | .bsetImm imm rd => Sys2Proof.Machine.execBsetImm imm rd s
  | .bsetRR rs rd => Sys2Proof.Machine.execBsetRR rs rd s
  | .btstImmMem imm rs2 d => Sys2Proof.Machine.execBtstImmMem imm rs2 d s
  | .btstRMem rs rs2 d => Sys2Proof.Machine.execBtstRMem rs rs2 d s
  | .btstImm imm rs2 => Sys2Proof.Machine.execBtstImm imm rs2 s
  | .btstRR rs rs2 => Sys2Proof.Machine.execBtstRR rs rs2 s
  | .bmcndMem cd imm rd d => Sys2Proof.Machine.execBmcndMem cd imm rd d s
  | .bmcndR cd imm rd => Sys2Proof.Machine.execBmcndR cd imm rd s
  | .bnotImmMem imm rd d => Sys2Proof.Machine.execBnotImmMem imm rd d s
  | .bnotRMem rs rd d => Sys2Proof.Machine.execBnotRMem rs rd d s
  | .bnotImm imm rd => Sys2Proof.Machine.execBnotImm imm rd s
  | .bnotRR rs rd => Sys2Proof.Machine.execBnotRR rs rd s
  | .scmpu => Sys2Proof.Machine.execScmpu s
  | .smovb => Sys2Proof.Machine.execSmovb s
  | .smovf => Sys2Proof.Machine.execSmovf s
  | .smovu => Sys2Proof.Machine.execSmovu s
  | .sstr sz => Sys2Proof.Machine.execSstr sz s
  | .suntil sz => Sys2Proof.Machine.execSuntil sz s
  | .swhile sz => Sys2Proof.Machine.execSwhile sz s
  | .setpsw cb => Sys2Proof.Machine.execSetpsw cb s
  | .clrpsw cb => Sys2Proof.Machine.execClrpsw cb s
  | .mvfc cr rd => Sys2Proof.Machine.execMvfc cr rd s
  | .mvtcImm imm cr => Sys2Proof.Machine.execMvtcImm imm cr s
  | .mvtcR rs cr => Sys2Proof.Machine.execMvtcR rs cr s
  | .mvtipl imm => Sys2Proof.Machine.execMvtipl imm s
  | .brk => Sys2Proof.Machine.execBrk s
  | .int imm => Sys2Proof.Machine.execInt imm s
  | .rte => Sys2Proof.Machine.execRte s
  | .rtfi => Sys2Proof.Machine.execRtfi s
  | .wait => Sys2Proof.Machine.execWait s
  | .machi rs rs2 => Sys2Proof.Machine.execMachi rs rs2 s
  | .maclo rs rs2 => Sys2Proof.Machine.execMaclo rs rs2 s
  | .mulhi rs rs2 => Sys2Proof.Machine.execMulhi rs rs2 s
  | .mullo rs rs2 => Sys2Proof.Machine.execMullo rs rs2 s
  | .mvfachi rd => Sys2Proof.Machine.execMvfachi rd s
  | .mvfacmi rd => Sys2Proof.Machine.execMvfacmi rd s
  | .mvtachi rs => Sys2Proof.Machine.execMvtachi rs s
  | .mvtaclo rs => Sys2Proof.Machine.execMvtaclo rs s
  | .racw imm => Sys2Proof.Machine.execRacw imm s

end Sys2Proof.Machine
end

