-- ==== Sys2Proof/WellFormed.lean ====
section
/-! DEFINITION. Which operands an encoding admits (spec/30_encoding.md R124, R171; the `constraints` of
spec/opcode_table.json), and which instructions a product has (R47, R544, D6, D20). -/

namespace Sys2Proof

/-- EMUL, EMULU: the destination pair starts at R0 to R14 (R124, R209). -/
def Reg.pairOk (rd : Reg) : Bool := rd.val != 15

/-- PUSHM, POPM: the first register is R1 to R14, the last R2 to R15 (R124). -/
def Reg.rangeOk (first last : Reg) : Bool :=
  first.val != 0 && first.val != 15 && last.val != 0 && last.val != 1

/-- MVTC, POPC: PC is no destination (R133). -/
def CReg.writable (cr : CReg) : Bool := cr != .pc

/-- MOV (8): the pairs of size and immediate length that the source lists (R382). -/
def Simm.fitsMov (sz : Size) : Simm → Bool
  | .s8 _ => true
  | .s16 _ => sz != .b
  | .s24 _ | .i32 _ => sz == .l

/-- SCCnd: the register form exists for size .L only (R171, R392). -/
def RegOrMem.fitsScc (sz : Size) : RegOrMem → Bool
  | .reg _ => sz == .l
  | .mem _ _ => true

/-- The operands are ones an encoding of the opcode table holds. -/
def Instr.wellFormed : Instr → Bool
  | .emulImm _ rd | .emulRm _ rd | .emulMx _ _ _ rd | .emuluImm _ rd | .emuluRm _ rd | .emuluMx _ _ _ rd => rd.pairOk
  | .movImmMem sz imm _ _ => imm.fitsMov sz
  | .popc cr | .mvtcImm _ cr | .mvtcR _ cr => cr.writable
  | .popm rd rd2 => rd.rangeOk rd2
  | .pushm rs rs2 => rs.rangeOk rs2
  | .rtsdRange _ rd rd2 => rd.val != 0 && rd2.val != 0
  | .sccnd _ sz dst => dst.fitsScc sz
  | .absR .. | .absRR .. | .adcImm .. | .adcRR .. | .adcMem .. | .addUimm4 .. | .addRm .. | .addMx ..
  | .addImm3 .. | .addRRR .. | .andUimm4 .. | .andImm .. | .andRm .. | .andMx .. | .andRRR .. | .cmpUimm4 ..
  | .cmpUimm8 .. | .cmpImm .. | .cmpRm .. | .cmpMx .. | .divImm .. | .divRm .. | .divMx .. | .divuImm ..
  | .divuRm .. | .divuMx .. | .maxImm .. | .maxRm .. | .maxMx .. | .minImm .. | .minRm .. | .minMx ..
  | .mulUimm4 .. | .mulImm .. | .mulRm .. | .mulMx .. | .mulRRR .. | .negR .. | .negRR .. | .nop | .notR ..
  | .notRR .. | .orUimm4 .. | .orImm .. | .orRm .. | .orMx .. | .orRRR .. | .rmpa .. | .rolc .. | .rorc ..
  | .rotlImm .. | .rotlRR .. | .rotrImm .. | .rotrRR .. | .sat .. | .satr | .sbbRR .. | .sbbMem ..
  | .sharImm .. | .sharRR .. | .sharImm3 .. | .shllImm .. | .shllRR .. | .shllImm3 .. | .shlrImm ..
  | .shlrRR .. | .shlrImm3 .. | .subUimm4 .. | .subRm .. | .subMx .. | .subRRR .. | .tstImm .. | .tstRm ..
  | .tstMx .. | .xorImm .. | .xorRm .. | .xorMx .. | .faddImm .. | .faddRm .. | .fcmpImm .. | .fcmpRm ..
  | .fdivImm .. | .fdivRm .. | .fmulImm .. | .fmulRm .. | .fsubImm .. | .fsubRm .. | .ftoiRm .. | .roundRm ..
  | .itofRm .. | .itofMx .. | .movStoreD5 .. | .movLoadD5 .. | .movUimm4 .. | .movImmD5 .. | .movUimm8 ..
  | .movImm .. | .movRR .. | .movLoad .. | .movLoadIdx .. | .movStore .. | .movStoreIdx .. | .movMemMem ..
  | .movStoreAuto .. | .movLoadAuto .. | .movuLoadD5 .. | .movuRm .. | .movuLoadIdx .. | .movuLoadAuto ..
  | .pop .. | .pushR .. | .pushMem .. | .pushc .. | .revl .. | .revw .. | .stnz .. | .stz .. | .xchgRm ..
  | .xchgMx .. | .bcndS .. | .bcndB .. | .bcndW .. | .braS .. | .braB .. | .braW .. | .braA .. | .braL ..
  | .bsrW .. | .bsrA .. | .bsrL .. | .jmp .. | .jsr .. | .rts | .rtsd .. | .bclrImmMem .. | .bclrRMem ..
  | .bclrImm .. | .bclrRR .. | .bsetImmMem .. | .bsetRMem .. | .bsetImm .. | .bsetRR .. | .btstImmMem ..
  | .btstRMem .. | .btstImm .. | .btstRR .. | .bmcndMem .. | .bmcndR .. | .bnotImmMem .. | .bnotRMem ..
  | .bnotImm .. | .bnotRR .. | .scmpu | .smovb | .smovf | .smovu | .sstr .. | .suntil ..
  | .swhile .. | .setpsw .. | .clrpsw .. | .mvfc .. | .mvtipl .. | .brk | .int .. | .rte | .rtfi
  | .wait | .machi .. | .maclo .. | .mulhi .. | .mullo .. | .mvfachi .. | .mvfacmi .. | .mvtachi ..
  | .mvtaclo .. | .racw .. => true

/-- The eight floating-point instructions (R47, D6). -/
def Instr.needsFpu : Instr → Bool
  | .faddImm .. | .faddRm .. | .fcmpImm .. | .fcmpRm .. | .fdivImm .. | .fdivRm .. | .fmulImm .. | .fmulRm ..
  | .fsubImm .. | .fsubRm .. | .ftoiRm .. | .roundRm .. | .itofRm .. | .itofMx .. => true
  | .absR .. | .absRR .. | .adcImm .. | .adcRR .. | .adcMem .. | .addUimm4 .. | .addRm .. | .addMx ..
  | .addImm3 .. | .addRRR .. | .andUimm4 .. | .andImm .. | .andRm .. | .andMx .. | .andRRR .. | .cmpUimm4 ..
  | .cmpUimm8 .. | .cmpImm .. | .cmpRm .. | .cmpMx .. | .divImm .. | .divRm .. | .divMx .. | .divuImm ..
  | .divuRm .. | .divuMx .. | .emulImm .. | .emulRm .. | .emulMx .. | .emuluImm .. | .emuluRm .. | .emuluMx ..
  | .maxImm .. | .maxRm .. | .maxMx .. | .minImm .. | .minRm .. | .minMx .. | .mulUimm4 .. | .mulImm ..
  | .mulRm .. | .mulMx .. | .mulRRR .. | .negR .. | .negRR .. | .nop | .notR .. | .notRR .. | .orUimm4 ..
  | .orImm .. | .orRm .. | .orMx .. | .orRRR .. | .rmpa .. | .rolc .. | .rorc .. | .rotlImm .. | .rotlRR ..
  | .rotrImm .. | .rotrRR .. | .sat .. | .satr | .sbbRR .. | .sbbMem .. | .sharImm .. | .sharRR ..
  | .sharImm3 .. | .shllImm .. | .shllRR .. | .shllImm3 .. | .shlrImm .. | .shlrRR .. | .shlrImm3 ..
  | .subUimm4 .. | .subRm .. | .subMx .. | .subRRR .. | .tstImm .. | .tstRm .. | .tstMx .. | .xorImm ..
  | .xorRm .. | .xorMx .. | .movStoreD5 .. | .movLoadD5 .. | .movUimm4 .. | .movImmD5 .. | .movUimm8 ..
  | .movImm .. | .movRR .. | .movImmMem .. | .movLoad .. | .movLoadIdx .. | .movStore .. | .movStoreIdx ..
  | .movMemMem .. | .movStoreAuto .. | .movLoadAuto .. | .movuLoadD5 .. | .movuRm .. | .movuLoadIdx ..
  | .movuLoadAuto .. | .pop .. | .popc .. | .popm .. | .pushR .. | .pushMem .. | .pushc .. | .pushm ..
  | .revl .. | .revw .. | .sccnd .. | .stnz .. | .stz .. | .xchgRm .. | .xchgMx .. | .bcndS .. | .bcndB ..
  | .bcndW .. | .braS .. | .braB .. | .braW .. | .braA .. | .braL .. | .bsrW .. | .bsrA .. | .bsrL .. | .jmp ..
  | .jsr .. | .rts | .rtsd .. | .rtsdRange .. | .bclrImmMem .. | .bclrRMem .. | .bclrImm .. | .bclrRR ..
  | .bsetImmMem .. | .bsetRMem .. | .bsetImm .. | .bsetRR .. | .btstImmMem .. | .btstRMem .. | .btstImm ..
  | .btstRR .. | .bmcndMem .. | .bmcndR .. | .bnotImmMem .. | .bnotRMem .. | .bnotImm .. | .bnotRR ..
  | .scmpu | .smovb | .smovf | .smovu | .sstr .. | .suntil .. | .swhile .. | .setpsw ..
  | .clrpsw .. | .mvfc .. | .mvtcImm .. | .mvtcR .. | .mvtipl .. | .brk | .int .. | .rte | .rtfi
  | .wait | .machi .. | .maclo .. | .mulhi .. | .mullo .. | .mvfachi .. | .mvfacmi .. | .mvtachi ..
  | .mvtaclo .. | .racw .. => false

/-- MVTIPL, absent in the RX610 group (R544, D20). -/
def Instr.needsMvtipl : Instr → Bool
  | .mvtipl _ => true
  | .absR .. | .absRR .. | .adcImm .. | .adcRR .. | .adcMem .. | .addUimm4 .. | .addRm .. | .addMx ..
  | .addImm3 .. | .addRRR .. | .andUimm4 .. | .andImm .. | .andRm .. | .andMx .. | .andRRR .. | .cmpUimm4 ..
  | .cmpUimm8 .. | .cmpImm .. | .cmpRm .. | .cmpMx .. | .divImm .. | .divRm .. | .divMx .. | .divuImm ..
  | .divuRm .. | .divuMx .. | .emulImm .. | .emulRm .. | .emulMx .. | .emuluImm .. | .emuluRm .. | .emuluMx ..
  | .maxImm .. | .maxRm .. | .maxMx .. | .minImm .. | .minRm .. | .minMx .. | .mulUimm4 .. | .mulImm ..
  | .mulRm .. | .mulMx .. | .mulRRR .. | .negR .. | .negRR .. | .nop | .notR .. | .notRR .. | .orUimm4 ..
  | .orImm .. | .orRm .. | .orMx .. | .orRRR .. | .rmpa .. | .rolc .. | .rorc .. | .rotlImm .. | .rotlRR ..
  | .rotrImm .. | .rotrRR .. | .sat .. | .satr | .sbbRR .. | .sbbMem .. | .sharImm .. | .sharRR ..
  | .sharImm3 .. | .shllImm .. | .shllRR .. | .shllImm3 .. | .shlrImm .. | .shlrRR .. | .shlrImm3 ..
  | .subUimm4 .. | .subRm .. | .subMx .. | .subRRR .. | .tstImm .. | .tstRm .. | .tstMx .. | .xorImm ..
  | .xorRm .. | .xorMx .. | .faddImm .. | .faddRm .. | .fcmpImm .. | .fcmpRm .. | .fdivImm .. | .fdivRm ..
  | .fmulImm .. | .fmulRm .. | .fsubImm .. | .fsubRm .. | .ftoiRm .. | .roundRm .. | .itofRm .. | .itofMx ..
  | .movStoreD5 .. | .movLoadD5 .. | .movUimm4 .. | .movImmD5 .. | .movUimm8 .. | .movImm .. | .movRR ..
  | .movImmMem .. | .movLoad .. | .movLoadIdx .. | .movStore .. | .movStoreIdx .. | .movMemMem ..
  | .movStoreAuto .. | .movLoadAuto .. | .movuLoadD5 .. | .movuRm .. | .movuLoadIdx .. | .movuLoadAuto ..
  | .pop .. | .popc .. | .popm .. | .pushR .. | .pushMem .. | .pushc .. | .pushm .. | .revl .. | .revw ..
  | .sccnd .. | .stnz .. | .stz .. | .xchgRm .. | .xchgMx .. | .bcndS .. | .bcndB .. | .bcndW .. | .braS ..
  | .braB .. | .braW .. | .braA .. | .braL .. | .bsrW .. | .bsrA .. | .bsrL .. | .jmp .. | .jsr .. | .rts
  | .rtsd .. | .rtsdRange .. | .bclrImmMem .. | .bclrRMem .. | .bclrImm .. | .bclrRR .. | .bsetImmMem ..
  | .bsetRMem .. | .bsetImm .. | .bsetRR .. | .btstImmMem .. | .btstRMem .. | .btstImm .. | .btstRR ..
  | .bmcndMem .. | .bmcndR .. | .bnotImmMem .. | .bnotRMem .. | .bnotImm .. | .bnotRR .. | .scmpu
  | .smovb | .smovf | .smovu | .sstr .. | .suntil .. | .swhile .. | .setpsw .. | .clrpsw .. | .mvfc ..
  | .mvtcImm .. | .mvtcR .. | .brk | .int .. | .rte | .rtfi | .wait | .machi .. | .maclo ..
  | .mulhi .. | .mullo .. | .mvfachi .. | .mvfacmi .. | .mvtachi .. | .mvtaclo .. | .racw .. => false

/-- The product has the instruction: without it the encoding is undefined (R611). -/
def Instr.installed (p : Product) (i : Instr) : Bool :=
  (p.hasFpu || !i.needsFpu) && (p.hasMvtipl || !i.needsMvtipl)

end Sys2Proof
end

