-- ==== Sys2Proof/Decode.lean ====
section
/-! DEFINITION. The decoder and the encoder of spec/30_encoding.md. `decode` is total on any bytes; it reads bytes
in address order and stops at the first byte that tells it that no pattern of the opcode table matches (R121,
R170, R611). -/

namespace Sys2Proof

/-! ### Fields -/

/-- Bits lo+w-1 to lo of an opcode byte. -/
def fld (b : Byte) (lo w : Nat) : BitVec w := b.extractLsb' lo w

/-- The register number in the high nibble (R124). -/
def hiReg (b : Byte) : Reg := (fld b 4 4).toFin

/-- The register number in the low nibble (R124). -/
def loReg (b : Byte) : Reg := (fld b 0 4).toFin

/-- The register number of a dsp:5 form in b6 to b4 (R141). -/
def hiLow (b : Byte) : LowReg := (fld b 4 3).toFin

/-- The register number of a dsp:5 form in b2 to b0 (R141). -/
def loLow (b : Byte) : LowReg := (fld b 0 3).toFin

/-- The five bits of dsp:5 in their two bytes: dsp[4:2], dsp[1], dsp[0] (R141). -/
def dsp5 (b0 b1 : Byte) : BitVec 5 := fld b0 0 3 ++ fld b1 7 1 ++ fld b1 3 1

/-- #IMM:5 whose top bit is bit 0 of one byte and whose low bits are the high nibble of the next (R144, R472). -/
def imm5 (b0 b1 : Byte) : BitVec 5 := fld b0 0 1 ++ fld b1 4 4

/-- Why a byte sequence is no instruction (R170, R171, D7). -/
inductive Reject where
  /-- The bytes match no pattern of the opcode table (R170; 93_implementation_defined.md E7, E11). -/
  | noPattern
  /-- `sz` or a pair of size and immediate length that is not listed (R171 E8, R382). -/
  | size
  /-- `ld` = 11b where the operand must be memory (R171 E8). -/
  | notMemory
  /-- `mi` other than 10b for ADC, SBB (R171 E8). -/
  | memex
  /-- A reserved `cd` (R131 E1, E2, E3). -/
  | condition
  /-- A reserved `cr` (R133 E4, E5). -/
  | controlRegister
  /-- A reserved `cb` (R134 E6). -/
  | controlBit
  /-- A register number outside the field's table (R124 E9). -/
  | register
  /-- A bit that the pattern fixes to 0 is 1 (R171 E10). -/
  | mustBeZero
  /-- The product does not have the instruction (D6, D20; E12, E13). -/
  | notInstalled
  deriving DecidableEq, Repr

/-- What the bytes read so far are: an instruction and the bytes after it, too few bytes to tell, or no
instruction. -/
inductive Decoded where
  | instr (i : Instr) (rest : List Byte)
  | short
  | undefined (why : Reject)
  deriving DecidableEq, Repr

/-- `sz` (R129). -/
def Size.ofBits (z : BitVec 2) : Option Size :=
  match z.toNat with
  | 0 => some .b
  | 1 => some .w
  | 2 => some .l
  | _ => none

def Size.bits : Size → BitVec 2
  | .b => 0
  | .w => 1
  | .l => 2

/-- The one-bit `sz` of MOVU (R129). -/
def MovuSize.ofBits (z : BitVec 1) : MovuSize := if z = 0 then .b else .w

def MovuSize.bits : MovuSize → BitVec 1
  | .b => 0
  | .w => 1

/-- `mi` (R127). -/
def Memex.ofBits (m : BitVec 2) : Memex :=
  match m.toNat with
  | 0 => .b
  | 1 => .w
  | 2 => .l
  | _ => .uw

def Memex.bits : Memex → BitVec 2
  | .b => 0
  | .w => 1
  | .l => 2
  | .uw => 3

/-- `cd` (R131). -/
def Cond.ofBits (c : BitVec 4) : Option Cond :=
  match c.toNat with
  | 0 => some .eq
  | 1 => some .ne
  | 2 => some .geu
  | 3 => some .ltu
  | 4 => some .gtu
  | 5 => some .leu
  | 6 => some .pz
  | 7 => some .n
  | 8 => some .ge
  | 9 => some .lt
  | 10 => some .gt
  | 11 => some .le
  | 12 => some .o
  | 13 => some .no
  | _ => none

def Cond.bits : Cond → BitVec 4
  | .eq => 0
  | .ne => 1
  | .geu => 2
  | .ltu => 3
  | .gtu => 4
  | .leu => 5
  | .pz => 6
  | .n => 7
  | .ge => 8
  | .lt => 9
  | .gt => 10
  | .le => 11
  | .o => 12
  | .no => 13

/-- The one-bit `cd` of BCnd.S and BCnd.W (R131). -/
def EqNe.ofBits (c : BitVec 1) : EqNe := if c = 0 then .eq else .ne

def EqNe.bits : EqNe → BitVec 1
  | .eq => 0
  | .ne => 1

/-- `cr` (R133). -/
def CReg.ofBits (c : BitVec 4) : Option CReg :=
  match c.toNat with
  | 0 => some .psw
  | 1 => some .pc
  | 2 => some .usp
  | 3 => some .fpsw
  | 8 => some .bpsw
  | 9 => some .bpc
  | 10 => some .isp
  | 11 => some .fintv
  | 12 => some .intb
  | _ => none

def CReg.bits : CReg → BitVec 4
  | .psw => 0
  | .pc => 1
  | .usp => 2
  | .fpsw => 3
  | .bpsw => 8
  | .bpc => 9
  | .isp => 10
  | .fintv => 11
  | .intb => 12

/-- `cb` (R134). -/
def PswBit.ofBits (c : BitVec 4) : Option PswBit :=
  match c.toNat with
  | 0 => some .c
  | 1 => some .z
  | 2 => some .s
  | 3 => some .o
  | 8 => some .i
  | 9 => some .u
  | _ => none

def PswBit.bits : PswBit → BitVec 4
  | .c => 0
  | .z => 1
  | .s => 2
  | .o => 3
  | .i => 8
  | .u => 9

/-- The low bit of `ad` (R130): 0 is [Rn+], 1 is [-Rn]. -/
def Auto.ofBits (a : BitVec 1) : Auto := if a = 0 then .postInc else .preDec

def Auto.bits : Auto → BitVec 1
  | .postInc => 0
  | .preDec => 1

/-! ### Reading bytes -/

/-- Read one more byte. -/
def take1 (r : List Byte) (k : Byte → List Byte → Decoded) : Decoded :=
  match r with
  | b :: r => k b r
  | [] => .short

/-- Read a two-byte field, low byte first (R84, R120, D2). -/
def take16 (r : List Byte) (k : BitVec 16 → List Byte → Decoded) : Decoded :=
  match r with
  | b0 :: b1 :: r => k (b1 ++ b0) r
  | _ => .short

/-- Read a three-byte field, low byte first. -/
def take24 (r : List Byte) (k : BitVec 24 → List Byte → Decoded) : Decoded :=
  match r with
  | b0 :: b1 :: b2 :: r => k (b2 ++ b1 ++ b0) r
  | _ => .short

/-- Read a four-byte field, low byte first. -/
def take32 (r : List Byte) (k : BitVec 32 → List Byte → Decoded) : Decoded :=
  match r with
  | b0 :: b1 :: b2 :: b3 :: r => k (b3 ++ b2 ++ b1 ++ b0) r
  | _ => .short

/-- The displacement that `ld` announces (R125, R126); 11b is no memory operand. -/
def takeDsp (ld : BitVec 2) (r : List Byte) (k : Dsp → List Byte → Decoded) : Decoded :=
  match ld.toNat with
  | 0 => k .none r
  | 1 => take1 r fun v r => k (.d8 v) r
  | 2 => take16 r fun v r => k (.d16 v) r
  | _ => .undefined .notMemory

/-- The operand that `ld` announces: 11b is the register itself (R125). -/
def takeRm (ld : BitVec 2) (base : Reg) (r : List Byte) (k : RegOrMem → List Byte → Decoded) : Decoded :=
  if ld = 3 then k (.reg base) r else takeDsp ld r fun d r => k (.mem base d) r

/-- The immediate that `li` announces (R128). -/
def takeImm (li : BitVec 2) (r : List Byte) (k : Simm → List Byte → Decoded) : Decoded :=
  match li.toNat with
  | 1 => take1 r fun v r => k (.s8 v) r
  | 2 => take16 r fun v r => k (.s16 v) r
  | 3 => take24 r fun v r => k (.s24 v) r
  | _ => take32 r fun v r => k (.i32 v) r

/-- A field with reserved values. -/
def field {α : Type} (v : Option α) (why : Reject) (k : α → Decoded) : Decoded :=
  match v with
  | some a => k a
  | none => .undefined why

/-- The operand register pair and displacement of the common `ssssdddd +dsp` tail. -/
def tailRm (ld : BitVec 2) (r : List Byte) (k : RegOrMem → Reg → Instr) : Decoded :=
  take1 r fun b r => takeRm ld (hiReg b) r fun src r => .instr (k src (loReg b)) r

/-- As `tailRm`, with a destination limited to R0 to R14 (R209). -/
def tailRmPair (ld : BitVec 2) (r : List Byte) (k : RegOrMem → Reg → Instr) : Decoded :=
  take1 r fun b r =>
    if (loReg b).pairOk then takeRm ld (hiReg b) r fun src r => .instr (k src (loReg b)) r
    else .undefined .register

/-- The `ssssdddd +dsp` tail whose `ssss` operand is memory. -/
def tailMem (ld : BitVec 2) (r : List Byte) (k : Reg → Dsp → Reg → Instr) : Decoded :=
  take1 r fun b r => takeDsp ld r fun d r => .instr (k (hiReg b) d (loReg b)) r

/-- As `tailMem`, with a destination limited to R0 to R14 (R209). -/
def tailMemPair (ld : BitVec 2) (r : List Byte) (k : Reg → Dsp → Reg → Instr) : Decoded :=
  take1 r fun b r =>
    if (loReg b).pairOk then takeDsp ld r fun d r => .instr (k (hiReg b) d (loReg b)) r
    else .undefined .register

/-- The `ssssdddd` tail of two registers. -/
def tail2 (r : List Byte) (k : Reg → Reg → Instr) : Decoded :=
  take1 r fun b r => .instr (k (hiReg b) (loReg b)) r

/-! ### Pages -/

/-- The 06 page: memory sources with `mi` (R143). -/
def decode06 (p : Product) (r : List Byte) : Decoded :=
  take1 r fun b r =>
    let mx := Memex.ofBits (fld b 6 2)
    let ld := fld b 0 2
    if ld = 3 then .undefined .notMemory
    else
      match (fld b 2 4).toNat with
      | 0 => tailMem ld r (.subMx mx)
      | 1 => tailMem ld r (.cmpMx mx)
      | 2 => tailMem ld r (.addMx mx)
      | 3 => tailMem ld r (.mulMx mx)
      | 4 => tailMem ld r (.andMx mx)
      | 5 => tailMem ld r (.orMx mx)
      | 8 => take1 r fun op r =>
        match op.toNat with
        | 0x00 => if mx = .l then tailMem ld r .sbbMem else .undefined .memex
        | 0x02 => if mx = .l then tailMem ld r .adcMem else .undefined .memex
        | 0x04 => tailMem ld r (.maxMx mx)
        | 0x05 => tailMem ld r (.minMx mx)
        | 0x06 => tailMemPair ld r (.emulMx mx)
        | 0x07 => tailMemPair ld r (.emuluMx mx)
        | 0x08 => tailMem ld r (.divMx mx)
        | 0x09 => tailMem ld r (.divuMx mx)
        | 0x0C => tailMem ld r (.tstMx mx)
        | 0x0D => tailMem ld r (.xorMx mx)
        | 0x10 => tailMem ld r (.xchgMx mx)
        | 0x11 => if p.hasFpu then tailMem ld r (.itofMx mx) else .undefined .notInstalled
        | _ => .undefined .noPattern
      | _ => .undefined .noPattern

/-- First bytes 00 to 0F (R140, R150). -/
def decode0 (p : Product) (b0 : Byte) (r : List Byte) : Decoded :=
  match b0.toNat with
  | 0x00 => .instr .brk r
  | 0x02 => .instr .rts r
  | 0x03 => .instr .nop r
  | 0x04 => take24 r fun d r => .instr (.braA d) r
  | 0x05 => take24 r fun d r => .instr (.bsrA d) r
  | 0x06 => decode06 p r
  | _ => if fld b0 3 1 = 1 then .instr (.braS (fld b0 0 3)) r else .undefined .noPattern

/-- First bytes 20 to 2F: BCnd.B and BRA.B (R131, R441). -/
def decode2 (b0 : Byte) (r : List Byte) : Decoded :=
  if fld b0 0 4 = 14 then take1 r fun d r => .instr (.braB d) r
  else field (Cond.ofBits (fld b0 0 4)) .condition fun cd => take1 r fun d r => .instr (.bcndB cd d) r

/-- RTSD with a register range (R447). -/
def decodeRtsdRange (r : List Byte) : Decoded :=
  take1 r fun b r =>
    if (hiReg b).val = 0 ∨ (loReg b).val = 0 then .undefined .register
    else take1 r fun imm r => .instr (.rtsdRange imm (hiReg b) (loReg b)) r

/-- First bytes 30 to 3F (R141, R150). -/
def decode3 (b0 : Byte) (r : List Byte) : Decoded :=
  match b0.toNat with
  | 0x38 => take16 r fun d r => .instr (.braW d) r
  | 0x39 => take16 r fun d r => .instr (.bsrW d) r
  | 0x3A => take16 r fun d r => .instr (.bcndW .eq d) r
  | 0x3B => take16 r fun d r => .instr (.bcndW .ne d) r
  | 0x3F => decodeRtsdRange r
  | _ =>
    if fld b0 3 1 = 0 then .undefined .noPattern
    else field (Size.ofBits (fld b0 0 2)) .size fun sz =>
      take1 r fun b r => take1 r fun imm r =>
        .instr (.movImmD5 sz imm (fld b 7 1 ++ fld b 0 4) (hiLow b)) r

/-- First bytes 40 to 5F: two-operand short formats (R142). -/
def decode45 (b0 : Byte) (r : List Byte) : Decoded :=
  let ld := fld b0 0 2
  match (fld b0 2 4).toNat with
  | 0 => tailRm ld r .subRm
  | 1 => tailRm ld r .cmpRm
  | 2 => tailRm ld r .addRm
  | 3 => tailRm ld r .mulRm
  | 4 => tailRm ld r .andRm
  | 5 => tailRm ld r .orRm
  | 6 => tailRm ld r (.movuRm .b)
  | 7 => tailRm ld r (.movuRm .w)
  | _ => .undefined .noPattern

/-- PUSHM and POPM: register numbers outside the field tables are reserved (R124, R386, R389). -/
def tailRange (r : List Byte) (k : Reg → Reg → Instr) : Decoded :=
  take1 r fun b r =>
    if (hiReg b).rangeOk (loReg b) then .instr (k (hiReg b) (loReg b)) r else .undefined .register

/-- First bytes 60 to 6F (R144). -/
def decode6 (b0 : Byte) (r : List Byte) : Decoded :=
  let imm4 (k : BitVec 4 → Reg → Instr) : Decoded := take1 r fun b r => .instr (k (fld b 4 4) (loReg b)) r
  let sh (k : BitVec 5 → Reg → Instr) : Decoded := take1 r fun b r => .instr (k (imm5 b0 b) (loReg b)) r
  match (fld b0 0 4).toNat with
  | 0x0 => imm4 .subUimm4
  | 0x1 => imm4 .cmpUimm4
  | 0x2 => imm4 .addUimm4
  | 0x3 => imm4 .mulUimm4
  | 0x4 => imm4 .andUimm4
  | 0x5 => imm4 .orUimm4
  | 0x6 => imm4 .movUimm4
  | 0x7 => take1 r fun imm r => .instr (.rtsd imm) r
  | 0x8 | 0x9 => sh .shlrImm
  | 0xA | 0xB => sh .sharImm
  | 0xC | 0xD => sh .shllImm
  | 0xE => tailRange r .pushm
  | _ => tailRange r .popm

/-- First bytes 74 to 77, and the fixed-length instructions of the 75 page (R145). -/
def decode74 (p : Product) (b0 : Byte) (r : List Byte) : Decoded :=
  let li := fld b0 0 2
  take1 r fun b r =>
    match (fld b 4 4).toNat with
    | 0 => takeImm li r fun imm r => .instr (.cmpImm imm (loReg b)) r
    | 1 => takeImm li r fun imm r => .instr (.mulImm imm (loReg b)) r
    | 2 => takeImm li r fun imm r => .instr (.andImm imm (loReg b)) r
    | 3 => takeImm li r fun imm r => .instr (.orImm imm (loReg b)) r
    | 4 => if li = 1 then take1 r fun imm r => .instr (.movUimm8 imm (loReg b)) r else .undefined .noPattern
    | 5 => if li = 1 then take1 r fun imm r => .instr (.cmpUimm8 imm (loReg b)) r else .undefined .noPattern
    | 6 =>
      if li = 1 then
        if fld b 0 4 = 0 then take1 r fun imm r => .instr (.int imm) r else .undefined .mustBeZero
      else .undefined .noPattern
    | 7 =>
      if li = 1 then
        if fld b 0 4 = 0 then
          if p.hasMvtipl then
            take1 r fun b2 r =>
              if fld b2 4 4 = 0 then .instr (.mvtipl (fld b2 0 4)) r else .undefined .mustBeZero
          else .undefined .notInstalled
        else .undefined .mustBeZero
      else .undefined .noPattern
    | _ => .undefined .noPattern

/-- The 7E page (R146). -/
def decode7E (r : List Byte) : Decoded :=
  take1 r fun b r =>
    let rd := loReg b
    match (fld b 4 4).toNat with
    | 0x0 => .instr (.notR rd) r
    | 0x1 => .instr (.negR rd) r
    | 0x2 => .instr (.absR rd) r
    | 0x3 => .instr (.sat rd) r
    | 0x4 => .instr (.rorc rd) r
    | 0x5 => .instr (.rolc rd) r
    | 0x8 => .instr (.pushR .b rd) r
    | 0x9 => .instr (.pushR .w rd) r
    | 0xA => .instr (.pushR .l rd) r
    | 0xB => .instr (.pop rd) r
    | 0xC => field (CReg.ofBits (fld b 0 4)) .controlRegister fun cr => .instr (.pushc cr) r
    | 0xE => field (CReg.ofBits (fld b 0 4)) .controlRegister fun cr =>
      if cr.writable then .instr (.popc cr) r else .undefined .controlRegister
    | _ => .undefined .noPattern

/-- The 7F page (R146, R510). -/
def decode7F (r : List Byte) : Decoded :=
  take1 r fun b r =>
    match (fld b 4 4).toNat with
    | 0x0 => .instr (.jmp (loReg b)) r
    | 0x1 => .instr (.jsr (loReg b)) r
    | 0x4 => .instr (.braL (loReg b)) r
    | 0x5 => .instr (.bsrL (loReg b)) r
    | 0x8 =>
      match (fld b 0 4).toNat with
      | 0x0 => .instr (.suntil .b) r
      | 0x1 => .instr (.suntil .w) r
      | 0x2 => .instr (.suntil .l) r
      | 0x3 => .instr .scmpu r
      | 0x4 => .instr (.swhile .b) r
      | 0x5 => .instr (.swhile .w) r
      | 0x6 => .instr (.swhile .l) r
      | 0x7 => .instr .smovu r
      | 0x8 => .instr (.sstr .b) r
      | 0x9 => .instr (.sstr .w) r
      | 0xA => .instr (.sstr .l) r
      | 0xB => .instr .smovb r
      | 0xC => .instr (.rmpa .b) r
      | 0xD => .instr (.rmpa .w) r
      | 0xE => .instr (.rmpa .l) r
      | _ => .instr .smovf r
    | 0x9 =>
      match (fld b 0 4).toNat with
      | 0x3 => .instr .satr r
      | 0x4 => .instr .rtfi r
      | 0x5 => .instr .rte r
      | 0x6 => .instr .wait r
      | _ => .undefined .noPattern
    | 0xA => field (PswBit.ofBits (fld b 0 4)) .controlBit fun cb => .instr (.setpsw cb) r
    | 0xB => field (PswBit.ofBits (fld b 0 4)) .controlBit fun cb => .instr (.clrpsw cb) r
    | _ => .undefined .noPattern

/-- First bytes 70 to 7F (R145, R146, R150). -/
def decode7 (p : Product) (b0 : Byte) (r : List Byte) : Decoded :=
  match (fld b0 0 4).toNat with
  | 0x0 | 0x1 | 0x2 | 0x3 =>
    take1 r fun b r => takeImm (fld b0 0 2) r fun imm r => .instr (.addImm3 imm (hiReg b) (loReg b)) r
  | 0x4 | 0x5 | 0x6 | 0x7 => decode74 p b0 r
  | 0x8 | 0x9 => take1 r fun b r => .instr (.bsetImm (imm5 b0 b) (loReg b)) r
  | 0xA | 0xB => take1 r fun b r => .instr (.bclrImm (imm5 b0 b) (loReg b)) r
  | 0xC | 0xD => take1 r fun b r => .instr (.btstImm (imm5 b0 b) (loReg b)) r
  | 0xE => decode7E r
  | _ => decode7F r

/-- First bytes 80 to BF: the dsp:5 forms of MOV and MOVU (R141). -/
def decode8B (b0 : Byte) (r : List Byte) : Decoded :=
  match Size.ofBits (fld b0 4 2) with
  | some sz =>
    if fld b0 3 1 = 0 then
      take1 r fun b r => .instr (.movStoreD5 sz (loLow b) (dsp5 b0 b) (hiLow b)) r
    else
      take1 r fun b r => .instr (.movLoadD5 sz (dsp5 b0 b) (hiLow b) (loLow b)) r
  | none =>
    take1 r fun b r => .instr (.movuLoadD5 (.ofBits (fld b0 3 1)) (dsp5 b0 b) (hiLow b) (loLow b)) r

/-- First bytes C0 to EF: MOV general (R147). -/
def decodeCE (b0 : Byte) (r : List Byte) : Decoded :=
  let ldd := fld b0 2 2
  let lds := fld b0 0 2
  field (Size.ofBits (fld b0 4 2)) .size fun sz =>
    take1 r fun b r =>
      if ldd = 3 then
        if lds = 3 then .instr (.movRR sz (hiReg b) (loReg b)) r
        else takeDsp lds r fun d r => .instr (.movLoad sz (hiReg b) d (loReg b)) r
      else if lds = 3 then
        takeDsp ldd r fun d r => .instr (.movStore sz (loReg b) (hiReg b) d) r
      else
        takeDsp lds r fun ds r => takeDsp ldd r fun dd r => .instr (.movMemMem sz (hiReg b) ds (loReg b) dd) r

/-- Length code `li` of a MOV (8) that its size admits (R382). -/
def movLiOk (sz : Size) (li : BitVec 2) : Bool :=
  match sz with
  | .b => li == 1
  | .w => li == 1 || li == 2
  | .l => true

/-- First bytes F8 to FB: MOV of an immediate (R145, R147, R382). -/
def decodeF8 (b0 : Byte) (r : List Byte) : Decoded :=
  let ld := fld b0 0 2
  take1 r fun b r =>
    let li := fld b 2 2
    if ld = 3 then
      if fld b 0 2 = 2 then takeImm li r fun imm r => .instr (.movImm imm (hiReg b)) r
      else .undefined .noPattern
    else
      field (Size.ofBits (fld b 0 2)) .size fun sz =>
        if movLiOk sz li then
          takeDsp ld r fun d r => takeImm li r fun imm r => .instr (.movImmMem sz imm (hiReg b) d) r
        else .undefined .size

/-- First bytes F0 to F7: bit instructions on memory with an immediate bit number, PUSH of memory (R147). -/
def decodeF0 (b0 : Byte) (r : List Byte) : Decoded :=
  let ld := fld b0 0 2
  if ld = 3 then .undefined .notMemory
  else
    take1 r fun b r =>
      if fld b0 2 1 = 0 then
        if fld b 3 1 = 0 then takeDsp ld r fun d r => .instr (.bsetImmMem (fld b 0 3) (hiReg b) d) r
        else takeDsp ld r fun d r => .instr (.bclrImmMem (fld b 0 3) (hiReg b) d) r
      else if fld b 3 1 = 0 then
        takeDsp ld r fun d r => .instr (.btstImmMem (fld b 0 3) (hiReg b) d) r
      else if fld b 2 1 = 0 then
        field (Size.ofBits (fld b 0 2)) .size fun sz => takeDsp ld r fun d r => .instr (.pushMem sz (hiReg b) d) r
      else .undefined .noPattern

/-- Bit instructions with a register bit number: the operand is the high nibble (R472). -/
def tailBit (ld : BitVec 2) (r : List Byte) (mem : Reg → Reg → Dsp → Instr) (reg : Reg → Reg → Instr) : Decoded :=
  take1 r fun b r =>
    if ld = 3 then .instr (reg (loReg b) (hiReg b)) r
    else takeDsp ld r fun d r => .instr (mem (loReg b) (hiReg b) d) r

/-- SCCnd (R392). -/
def decodeScc (z : BitVec 2) (ld : BitVec 2) (r : List Byte) : Decoded :=
  field (Size.ofBits z) .size fun sz =>
    if ld = 3 ∧ sz ≠ .l then .undefined .size
    else take1 r fun b r => field (Cond.ofBits (fld b 0 4)) .condition fun cd =>
      takeRm ld (hiReg b) r fun dst r => .instr (.sccnd cd sz dst) r

/-- BMCnd and BNOT with #IMM:3 on memory (R474, R475). -/
def decodeBm (imm : BitVec 3) (ld : BitVec 2) (r : List Byte) : Decoded :=
  if ld = 3 then .undefined .notMemory
  else
    take1 r fun b r =>
      if fld b 0 4 = 15 then takeDsp ld r fun d r => .instr (.bnotImmMem imm (hiReg b) d) r
      else field (Cond.ofBits (fld b 0 4)) .condition fun cd =>
        takeDsp ld r fun d r => .instr (.bmcndMem cd imm (hiReg b) d) r

/-- A floating-point row: undefined where the product has no FPU (D6). -/
def fpu (p : Product) (k : Decoded) : Decoded := if p.hasFpu then k else .undefined .notInstalled

/-- The FC page (R148). -/
def decodeFC (p : Product) (r : List Byte) : Decoded :=
  take1 r fun b r =>
    let ld := fld b 0 2
    match b.toNat with
    | 0x03 => tail2 r .sbbRR
    | 0x07 => tail2 r .negRR
    | 0x0B => tail2 r .adcRR
    | 0x0F => tail2 r .absRR
    | 0x3B => tail2 r .notRR
    | _ =>
      match (fld b 2 6).toNat with
      | 0b000100 => tailRm ld r .maxRm
      | 0b000101 => tailRm ld r .minRm
      | 0b000110 => tailRmPair ld r .emulRm
      | 0b000111 => tailRmPair ld r .emuluRm
      | 0b001000 => tailRm ld r .divRm
      | 0b001001 => tailRm ld r .divuRm
      | 0b001100 => tailRm ld r .tstRm
      | 0b001101 => tailRm ld r .xorRm
      | 0b010000 => tailRm ld r .xchgRm
      | 0b010001 => fpu p (tailRm ld r .itofRm)
      | 0b011000 => tailBit ld r .bsetRMem .bsetRR
      | 0b011001 => tailBit ld r .bclrRMem .bclrRR
      | 0b011010 => tailBit ld r .btstRMem .btstRR
      | 0b011011 => tailBit ld r .bnotRMem .bnotRR
      | 0b100000 => fpu p (tailRm ld r .fsubRm)
      | 0b100001 => fpu p (tailRm ld r .fcmpRm)
      | 0b100010 => fpu p (tailRm ld r .faddRm)
      | 0b100011 => fpu p (tailRm ld r .fmulRm)
      | 0b100100 => fpu p (tailRm ld r .fdivRm)
      | 0b100101 => fpu p (tailRm ld r .ftoiRm)
      | 0b100110 => fpu p (tailRm ld r .roundRm)
      | _ =>
        if fld b 4 4 = 0b1101 then decodeScc (fld b 2 2) ld r
        else if fld b 5 3 = 0b111 then decodeBm (fld b 2 3) ld r
        else .undefined .noPattern

/-- The FD 70 to FD 7F page: immediates with `li` (R145). -/
def decodeFD7 (p : Product) (b : Byte) (r : List Byte) : Decoded :=
  let li := fld b 2 2
  match (fld b 0 2).toNat with
  | 0 => take1 r fun c r =>
    let rd := loReg c
    let imm (k : Simm → Reg → Instr) : Decoded := takeImm li r fun v r => .instr (k v rd) r
    match (fld c 4 4).toNat with
    | 0x2 => imm .adcImm
    | 0x4 => imm .maxImm
    | 0x5 => imm .minImm
    | 0x6 => if rd.pairOk then imm .emulImm else .undefined .register
    | 0x7 => if rd.pairOk then imm .emuluImm else .undefined .register
    | 0x8 => imm .divImm
    | 0x9 => imm .divuImm
    | 0xC => imm .tstImm
    | 0xD => imm .xorImm
    | 0xE => imm .stz
    | 0xF => imm .stnz
    | _ => .undefined .noPattern
  | 2 =>
    if li = 0 then
      fpu p (take1 r fun c r =>
        let rd := loReg c
        match (fld c 4 4).toNat with
        | 0 => take32 r fun v r => .instr (.fsubImm v rd) r
        | 1 => take32 r fun v r => .instr (.fcmpImm v rd) r
        | 2 => take32 r fun v r => .instr (.faddImm v rd) r
        | 3 => take32 r fun v r => .instr (.fmulImm v rd) r
        | 4 => take32 r fun v r => .instr (.fdivImm v rd) r
        | _ => .undefined .noPattern)
    else .undefined .noPattern
  | 3 => take1 r fun c r =>
    if fld c 4 4 = 0 then
      field (CReg.ofBits (fld c 0 4)) .controlRegister fun cr =>
        if cr.writable then takeImm li r fun v r => .instr (.mvtcImm v cr) r else .undefined .controlRegister
    else .undefined .mustBeZero
  | _ => .undefined .noPattern

/-- FD 00 to FD 1F: the DSP instructions (R149, R580). -/
def decodeDsp (b : Byte) (r : List Byte) : Decoded :=
  match b.toNat with
  | 0x00 => tail2 r .mulhi
  | 0x01 => tail2 r .mullo
  | 0x04 => tail2 r .machi
  | 0x05 => tail2 r .maclo
  | 0x17 => take1 r fun c r =>
    match (fld c 4 4).toNat with
    | 0 => .instr (.mvtachi (loReg c)) r
    | 1 => .instr (.mvtaclo (loReg c)) r
    | _ => .undefined .mustBeZero
  | 0x18 => take1 r fun c r =>
    if fld c 5 3 = 0 ∧ fld c 0 4 = 0 then .instr (.racw (fld c 4 1)) r else .undefined .mustBeZero
  | 0x1F => take1 r fun c r =>
    match (fld c 4 4).toNat with
    | 0 => .instr (.mvfachi (loReg c)) r
    | 2 => .instr (.mvfacmi (loReg c)) r
    | _ => .undefined .mustBeZero
  | _ => .undefined .noPattern

/-- FD 20 to FD 3F: MOV and MOVU with post-increment or pre-decrement (R130, R149). -/
def decodeAuto (b : Byte) (r : List Byte) : Decoded :=
  let mode := Auto.ofBits (fld b 2 1)
  if fld b 4 1 = 0 then
    field (Size.ofBits (fld b 0 2)) .size fun sz =>
      if fld b 3 1 = 0 then tail2 r fun rd rs => .movStoreAuto mode sz rs rd
      else tail2 r fun rs rd => .movLoadAuto mode sz rs rd
  else if fld b 3 1 = 1 ∧ fld b 1 1 = 0 then
    tail2 r fun rs rd => .movuLoadAuto mode (.ofBits (fld b 0 1)) rs rd
  else .undefined .noPattern

/-- FD 60 to FD 6F: shifts and rotates, byte reversal, control register moves (R149). -/
def decodeFD6 (b : Byte) (r : List Byte) : Decoded :=
  match (fld b 0 4).toNat with
  | 0x0 => tail2 r .shlrRR
  | 0x1 => tail2 r .sharRR
  | 0x2 => tail2 r .shllRR
  | 0x4 => tail2 r .rotrRR
  | 0x5 => tail2 r .revw
  | 0x6 => tail2 r .rotlRR
  | 0x7 => tail2 r .revl
  | 0x8 => take1 r fun c r => field (CReg.ofBits (fld c 0 4)) .controlRegister fun cr =>
    if cr.writable then .instr (.mvtcR (hiReg c) cr) r else .undefined .controlRegister
  | 0xA => take1 r fun c r => field (CReg.ofBits (fld c 4 4)) .controlRegister fun cr =>
    .instr (.mvfc cr (loReg c)) r
  | 0xC | 0xD => take1 r fun c r => .instr (.rotrImm (imm5 b c) (loReg c)) r
  | 0xE | 0xF => take1 r fun c r => .instr (.rotlImm (imm5 b c) (loReg c)) r
  | _ => .undefined .noPattern

/-- The FD page (R145, R149). -/
def decodeFD (p : Product) (r : List Byte) : Decoded :=
  take1 r fun b r =>
    match (fld b 5 3).toNat with
    | 0 => decodeDsp b r
    | 1 => decodeAuto b r
    | 2 => .undefined .noPattern
    | 3 => if fld b 4 1 = 0 then decodeFD6 b r else decodeFD7 p b r
    | 4 => take1 r fun c r => .instr (.shlrImm3 (fld b 0 5) (hiReg c) (loReg c)) r
    | 5 => take1 r fun c r => .instr (.sharImm3 (fld b 0 5) (hiReg c) (loReg c)) r
    | 6 => take1 r fun c r => .instr (.shllImm3 (fld b 0 5) (hiReg c) (loReg c)) r
    | _ => take1 r fun c r =>
      if fld c 4 4 = 15 then .instr (.bnotImm (fld b 0 5) (loReg c)) r
      else field (Cond.ofBits (fld c 4 4)) .condition fun cd => .instr (.bmcndR cd (fld b 0 5) (loReg c)) r

/-- The FE page: MOV and MOVU with an index register (R149). -/
def decodeFE (r : List Byte) : Decoded :=
  take1 r fun b r =>
    match (fld b 6 2).toNat with
    | 0 => field (Size.ofBits (fld b 4 2)) .size fun sz =>
      take1 r fun c r => .instr (.movStoreIdx sz (loReg c) (loReg b) (hiReg c)) r
    | 1 => field (Size.ofBits (fld b 4 2)) .size fun sz =>
      take1 r fun c r => .instr (.movLoadIdx sz (loReg b) (hiReg c) (loReg c)) r
    | 3 =>
      if fld b 5 1 = 0 then
        take1 r fun c r => .instr (.movuLoadIdx (.ofBits (fld b 4 1)) (loReg b) (hiReg c) (loReg c)) r
      else .undefined .noPattern
    | _ => .undefined .noPattern

/-- The FF page: three-register forms (R149). -/
def decodeFF (r : List Byte) : Decoded :=
  take1 r fun b r =>
    let op (k : Reg → Reg → Reg → Instr) : Decoded :=
      take1 r fun c r => .instr (k (hiReg c) (loReg c) (loReg b)) r
    match (fld b 4 4).toNat with
    | 0 => op .subRRR
    | 2 => op .addRRR
    | 3 => op .mulRRR
    | 4 => op .andRRR
    | 5 => op .orRRR
    | _ => .undefined .noPattern

/-- First bytes F0 to FF (R150). -/
def decodeF (p : Product) (b0 : Byte) (r : List Byte) : Decoded :=
  match (fld b0 0 4).toNat with
  | 0xC => decodeFC p r
  | 0xD => decodeFD p r
  | 0xE => decodeFE r
  | 0xF => decodeFF r
  | _ => if fld b0 3 1 = 0 then decodeF0 b0 r else decodeF8 b0 r

/-- The decoder: the opcode map by first byte (R150). -/
def decode (p : Product) : List Byte → Decoded
  | [] => .short
  | b0 :: r =>
    match (fld b0 4 4).toNat with
    | 0x0 => decode0 p b0 r
    | 0x1 => .instr (.bcndS (.ofBits (fld b0 3 1)) (fld b0 0 3)) r
    | 0x2 => decode2 b0 r
    | 0x3 => decode3 b0 r
    | 0x4 | 0x5 => decode45 b0 r
    | 0x6 => decode6 b0 r
    | 0x7 => decode7 p b0 r
    | 0x8 | 0x9 | 0xA | 0xB => decode8B b0 r
    | 0xC | 0xD | 0xE => decodeCE b0 r
    | _ => decodeF p b0 r

/-! ### The encoder -/

/-- A register number as a 4-bit field (R124). -/
def nib (r : Reg) : BitVec 4 := BitVec.ofFin r

/-- A register number as a 3-bit field (R141). -/
def low (r : LowReg) : BitVec 3 := BitVec.ofFin r

/-- The bytes of a 16-bit field, low byte first (R84, R120). -/
def le16 (v : BitVec 16) : List Byte := [v.extractLsb' 0 8, v.extractLsb' 8 8]

/-- The bytes of a 24-bit field, low byte first. -/
def le24 (v : BitVec 24) : List Byte := [v.extractLsb' 0 8, v.extractLsb' 8 8, v.extractLsb' 16 8]

/-- The bytes of a 32-bit field, low byte first. -/
def le32 (v : BitVec 32) : List Byte :=
  [v.extractLsb' 0 8, v.extractLsb' 8 8, v.extractLsb' 16 8, v.extractLsb' 24 8]

/-- `ld` of a displacement (R125). -/
def Dsp.bits : Dsp → BitVec 2
  | .none => 0
  | .d8 _ => 1
  | .d16 _ => 2

/-- The displacement bytes (R126). -/
def Dsp.bytes : Dsp → List Byte
  | .none => []
  | .d8 v => [v]
  | .d16 v => le16 v

def RegOrMem.ldBits : RegOrMem → BitVec 2
  | .reg _ => 3
  | .mem _ d => d.bits

def RegOrMem.regBits : RegOrMem → BitVec 4
  | .reg r => nib r
  | .mem b _ => nib b

def RegOrMem.dspBytes : RegOrMem → List Byte
  | .reg _ => []
  | .mem _ d => d.bytes

/-- `li` of an immediate (R128). -/
def Simm.bits : Simm → BitVec 2
  | .s8 _ => 1
  | .s16 _ => 2
  | .s24 _ => 3
  | .i32 _ => 0

/-- The immediate bytes (R128). -/
def Simm.bytes : Simm → List Byte
  | .s8 v => [v]
  | .s16 v => le16 v
  | .s24 v => le24 v
  | .i32 v => le32 v

/-- The bytes of an instruction, first byte first: the patterns of spec/opcode_table.json. -/
def encode : Instr → List Byte
  | .absR rd => [0x7E, 0b0010#4 ++ nib rd]
  | .absRR rs rd => [0xFC, 0x0F, nib rs ++ nib rd]
  | .adcImm imm rd => [0xFD, 0b0111#4 ++ imm.bits ++ 0b00#2, 0b0010#4 ++ nib rd] ++ imm.bytes
  | .adcRR rs rd => [0xFC, 0x0B, nib rs ++ nib rd]
  | .adcMem rs d rd => [0x06, 0b101000#6 ++ d.bits, 0x02, nib rs ++ nib rd] ++ d.bytes
  | .addUimm4 imm rd => [0x62, imm ++ nib rd]
  | .addRm src rd => [0b010010#6 ++ src.ldBits, src.regBits ++ nib rd] ++ src.dspBytes
  | .addMx mx rs d rd => [0x06, mx.bits ++ 0b0010#4 ++ d.bits, nib rs ++ nib rd] ++ d.bytes
  | .addImm3 imm rs2 rd => [0b011100#6 ++ imm.bits, nib rs2 ++ nib rd] ++ imm.bytes
  | .addRRR rs rs2 rd => [0xFF, 0b0010#4 ++ nib rd, nib rs ++ nib rs2]
  | .andUimm4 imm rd => [0x64, imm ++ nib rd]
  | .andImm imm rd => [0b011101#6 ++ imm.bits, 0b0010#4 ++ nib rd] ++ imm.bytes
  | .andRm src rd => [0b010100#6 ++ src.ldBits, src.regBits ++ nib rd] ++ src.dspBytes
  | .andMx mx rs d rd => [0x06, mx.bits ++ 0b0100#4 ++ d.bits, nib rs ++ nib rd] ++ d.bytes
  | .andRRR rs rs2 rd => [0xFF, 0b0100#4 ++ nib rd, nib rs ++ nib rs2]
  | .cmpUimm4 imm rs2 => [0x61, imm ++ nib rs2]
  | .cmpUimm8 imm rs2 => [0x75, 0b0101#4 ++ nib rs2, imm]
  | .cmpImm imm rs2 => [0b011101#6 ++ imm.bits, 0b0000#4 ++ nib rs2] ++ imm.bytes
  | .cmpRm src rs2 => [0b010001#6 ++ src.ldBits, src.regBits ++ nib rs2] ++ src.dspBytes
  | .cmpMx mx rs d rs2 => [0x06, mx.bits ++ 0b0001#4 ++ d.bits, nib rs ++ nib rs2] ++ d.bytes
  | .divImm imm rd => [0xFD, 0b0111#4 ++ imm.bits ++ 0b00#2, 0b1000#4 ++ nib rd] ++ imm.bytes
  | .divRm src rd => [0xFC, 0b001000#6 ++ src.ldBits, src.regBits ++ nib rd] ++ src.dspBytes
  | .divMx mx rs d rd => [0x06, mx.bits ++ 0b1000#4 ++ d.bits, 0x08, nib rs ++ nib rd] ++ d.bytes
  | .divuImm imm rd => [0xFD, 0b0111#4 ++ imm.bits ++ 0b00#2, 0b1001#4 ++ nib rd] ++ imm.bytes
  | .divuRm src rd => [0xFC, 0b001001#6 ++ src.ldBits, src.regBits ++ nib rd] ++ src.dspBytes
  | .divuMx mx rs d rd => [0x06, mx.bits ++ 0b1000#4 ++ d.bits, 0x09, nib rs ++ nib rd] ++ d.bytes
  | .emulImm imm rd => [0xFD, 0b0111#4 ++ imm.bits ++ 0b00#2, 0b0110#4 ++ nib rd] ++ imm.bytes
  | .emulRm src rd => [0xFC, 0b000110#6 ++ src.ldBits, src.regBits ++ nib rd] ++ src.dspBytes
  | .emulMx mx rs d rd => [0x06, mx.bits ++ 0b1000#4 ++ d.bits, 0x06, nib rs ++ nib rd] ++ d.bytes
  | .emuluImm imm rd => [0xFD, 0b0111#4 ++ imm.bits ++ 0b00#2, 0b0111#4 ++ nib rd] ++ imm.bytes
  | .emuluRm src rd => [0xFC, 0b000111#6 ++ src.ldBits, src.regBits ++ nib rd] ++ src.dspBytes
  | .emuluMx mx rs d rd => [0x06, mx.bits ++ 0b1000#4 ++ d.bits, 0x07, nib rs ++ nib rd] ++ d.bytes
  | .maxImm imm rd => [0xFD, 0b0111#4 ++ imm.bits ++ 0b00#2, 0b0100#4 ++ nib rd] ++ imm.bytes
  | .maxRm src rd => [0xFC, 0b000100#6 ++ src.ldBits, src.regBits ++ nib rd] ++ src.dspBytes
  | .maxMx mx rs d rd => [0x06, mx.bits ++ 0b1000#4 ++ d.bits, 0x04, nib rs ++ nib rd] ++ d.bytes
  | .minImm imm rd => [0xFD, 0b0111#4 ++ imm.bits ++ 0b00#2, 0b0101#4 ++ nib rd] ++ imm.bytes
  | .minRm src rd => [0xFC, 0b000101#6 ++ src.ldBits, src.regBits ++ nib rd] ++ src.dspBytes
  | .minMx mx rs d rd => [0x06, mx.bits ++ 0b1000#4 ++ d.bits, 0x05, nib rs ++ nib rd] ++ d.bytes
  | .mulUimm4 imm rd => [0x63, imm ++ nib rd]
  | .mulImm imm rd => [0b011101#6 ++ imm.bits, 0b0001#4 ++ nib rd] ++ imm.bytes
  | .mulRm src rd => [0b010011#6 ++ src.ldBits, src.regBits ++ nib rd] ++ src.dspBytes
  | .mulMx mx rs d rd => [0x06, mx.bits ++ 0b0011#4 ++ d.bits, nib rs ++ nib rd] ++ d.bytes
  | .mulRRR rs rs2 rd => [0xFF, 0b0011#4 ++ nib rd, nib rs ++ nib rs2]
  | .negR rd => [0x7E, 0b0001#4 ++ nib rd]
  | .negRR rs rd => [0xFC, 0x07, nib rs ++ nib rd]
  | .nop => [0x03]
  | .notR rd => [0x7E, 0b0000#4 ++ nib rd]
  | .notRR rs rd => [0xFC, 0x3B, nib rs ++ nib rd]
  | .orUimm4 imm rd => [0x65, imm ++ nib rd]
  | .orImm imm rd => [0b011101#6 ++ imm.bits, 0b0011#4 ++ nib rd] ++ imm.bytes
  | .orRm src rd => [0b010101#6 ++ src.ldBits, src.regBits ++ nib rd] ++ src.dspBytes
  | .orMx mx rs d rd => [0x06, mx.bits ++ 0b0101#4 ++ d.bits, nib rs ++ nib rd] ++ d.bytes
  | .orRRR rs rs2 rd => [0xFF, 0b0101#4 ++ nib rd, nib rs ++ nib rs2]
  | .rmpa sz => [0x7F, 0b100011#6 ++ sz.bits]
  | .rolc rd => [0x7E, 0b0101#4 ++ nib rd]
  | .rorc rd => [0x7E, 0b0100#4 ++ nib rd]
  | .rotlImm imm rd => [0xFD, 0b0110111#7 ++ imm.extractLsb' 4 1, imm.extractLsb' 0 4 ++ nib rd]
  | .rotlRR rs rd => [0xFD, 0x66, nib rs ++ nib rd]
  | .rotrImm imm rd => [0xFD, 0b0110110#7 ++ imm.extractLsb' 4 1, imm.extractLsb' 0 4 ++ nib rd]
  | .rotrRR rs rd => [0xFD, 0x64, nib rs ++ nib rd]
  | .sat rd => [0x7E, 0b0011#4 ++ nib rd]
  | .satr => [0x7F, 0x93]
  | .sbbRR rs rd => [0xFC, 0x03, nib rs ++ nib rd]
  | .sbbMem rs d rd => [0x06, 0b101000#6 ++ d.bits, 0x00, nib rs ++ nib rd] ++ d.bytes
  | .sharImm imm rd => [0b0110101#7 ++ imm.extractLsb' 4 1, imm.extractLsb' 0 4 ++ nib rd]
  | .sharRR rs rd => [0xFD, 0x61, nib rs ++ nib rd]
  | .sharImm3 imm rs2 rd => [0xFD, 0b101#3 ++ imm, nib rs2 ++ nib rd]
  | .shllImm imm rd => [0b0110110#7 ++ imm.extractLsb' 4 1, imm.extractLsb' 0 4 ++ nib rd]
  | .shllRR rs rd => [0xFD, 0x62, nib rs ++ nib rd]
  | .shllImm3 imm rs2 rd => [0xFD, 0b110#3 ++ imm, nib rs2 ++ nib rd]
  | .shlrImm imm rd => [0b0110100#7 ++ imm.extractLsb' 4 1, imm.extractLsb' 0 4 ++ nib rd]
  | .shlrRR rs rd => [0xFD, 0x60, nib rs ++ nib rd]
  | .shlrImm3 imm rs2 rd => [0xFD, 0b100#3 ++ imm, nib rs2 ++ nib rd]
  | .subUimm4 imm rd => [0x60, imm ++ nib rd]
  | .subRm src rd => [0b010000#6 ++ src.ldBits, src.regBits ++ nib rd] ++ src.dspBytes
  | .subMx mx rs d rd => [0x06, mx.bits ++ 0b0000#4 ++ d.bits, nib rs ++ nib rd] ++ d.bytes
  | .subRRR rs rs2 rd => [0xFF, 0b0000#4 ++ nib rd, nib rs ++ nib rs2]
  | .tstImm imm rs2 => [0xFD, 0b0111#4 ++ imm.bits ++ 0b00#2, 0b1100#4 ++ nib rs2] ++ imm.bytes
  | .tstRm src rs2 => [0xFC, 0b001100#6 ++ src.ldBits, src.regBits ++ nib rs2] ++ src.dspBytes
  | .tstMx mx rs d rs2 => [0x06, mx.bits ++ 0b1000#4 ++ d.bits, 0x0C, nib rs ++ nib rs2] ++ d.bytes
  | .xorImm imm rd => [0xFD, 0b0111#4 ++ imm.bits ++ 0b00#2, 0b1101#4 ++ nib rd] ++ imm.bytes
  | .xorRm src rd => [0xFC, 0b001101#6 ++ src.ldBits, src.regBits ++ nib rd] ++ src.dspBytes
  | .xorMx mx rs d rd => [0x06, mx.bits ++ 0b1000#4 ++ d.bits, 0x0D, nib rs ++ nib rd] ++ d.bytes
  | .faddImm imm rd => [0xFD, 0x72, 0b0010#4 ++ nib rd] ++ le32 imm
  | .faddRm src rd => [0xFC, 0b100010#6 ++ src.ldBits, src.regBits ++ nib rd] ++ src.dspBytes
  | .fcmpImm imm rs2 => [0xFD, 0x72, 0b0001#4 ++ nib rs2] ++ le32 imm
  | .fcmpRm src rs2 => [0xFC, 0b100001#6 ++ src.ldBits, src.regBits ++ nib rs2] ++ src.dspBytes
  | .fdivImm imm rd => [0xFD, 0x72, 0b0100#4 ++ nib rd] ++ le32 imm
  | .fdivRm src rd => [0xFC, 0b100100#6 ++ src.ldBits, src.regBits ++ nib rd] ++ src.dspBytes
  | .fmulImm imm rd => [0xFD, 0x72, 0b0011#4 ++ nib rd] ++ le32 imm
  | .fmulRm src rd => [0xFC, 0b100011#6 ++ src.ldBits, src.regBits ++ nib rd] ++ src.dspBytes
  | .fsubImm imm rd => [0xFD, 0x72, 0b0000#4 ++ nib rd] ++ le32 imm
  | .fsubRm src rd => [0xFC, 0b100000#6 ++ src.ldBits, src.regBits ++ nib rd] ++ src.dspBytes
  | .ftoiRm src rd => [0xFC, 0b100101#6 ++ src.ldBits, src.regBits ++ nib rd] ++ src.dspBytes
  | .roundRm src rd => [0xFC, 0b100110#6 ++ src.ldBits, src.regBits ++ nib rd] ++ src.dspBytes
  | .itofRm src rd => [0xFC, 0b010001#6 ++ src.ldBits, src.regBits ++ nib rd] ++ src.dspBytes
  | .itofMx mx rs d rd => [0x06, mx.bits ++ 0b1000#4 ++ d.bits, 0x11, nib rs ++ nib rd] ++ d.bytes
  | .movStoreD5 sz rs d rd => [0b10#2 ++ sz.bits ++ 0b0#1 ++ d.extractLsb' 2 3, d.extractLsb' 1 1 ++ low rd ++ d.extractLsb' 0 1 ++ low rs]
  | .movLoadD5 sz d rs rd => [0b10#2 ++ sz.bits ++ 0b1#1 ++ d.extractLsb' 2 3, d.extractLsb' 1 1 ++ low rs ++ d.extractLsb' 0 1 ++ low rd]
  | .movUimm4 imm rd => [0x66, imm ++ nib rd]
  | .movImmD5 sz imm d rd => [0b001111#6 ++ sz.bits, d.extractLsb' 4 1 ++ low rd ++ d.extractLsb' 0 4, imm]
  | .movUimm8 imm rd => [0x75, 0b0100#4 ++ nib rd, imm]
  | .movImm imm rd => [0xFB, nib rd ++ imm.bits ++ 0b10#2] ++ imm.bytes
  | .movRR sz rs rd => [0b11#2 ++ sz.bits ++ 0b1111#4, nib rs ++ nib rd]
  | .movImmMem sz imm rd d => [0b111110#6 ++ d.bits, nib rd ++ imm.bits ++ sz.bits] ++ d.bytes ++ imm.bytes
  | .movLoad sz rs d rd => [0b11#2 ++ sz.bits ++ 0b11#2 ++ d.bits, nib rs ++ nib rd] ++ d.bytes
  | .movLoadIdx sz ri rb rd => [0xFE, 0b01#2 ++ sz.bits ++ nib ri, nib rb ++ nib rd]
  | .movStore sz rs rd d => [0b11#2 ++ sz.bits ++ d.bits ++ 0b11#2, nib rd ++ nib rs] ++ d.bytes
  | .movStoreIdx sz rs ri rb => [0xFE, 0b00#2 ++ sz.bits ++ nib ri, nib rb ++ nib rs]
  | .movMemMem sz rs ds rd dd => [0b11#2 ++ sz.bits ++ dd.bits ++ ds.bits, nib rs ++ nib rd] ++ ds.bytes ++ dd.bytes
  | .movStoreAuto mode sz rs rd => [0xFD, 0b0010#4 ++ 0b0#1 ++ mode.bits ++ sz.bits, nib rd ++ nib rs]
  | .movLoadAuto mode sz rs rd => [0xFD, 0b0010#4 ++ 0b1#1 ++ mode.bits ++ sz.bits, nib rs ++ nib rd]
  | .movuLoadD5 sz d rs rd => [0b1011#4 ++ sz.bits ++ d.extractLsb' 2 3, d.extractLsb' 1 1 ++ low rs ++ d.extractLsb' 0 1 ++ low rd]
  | .movuRm sz src rd => [0b01011#5 ++ sz.bits ++ src.ldBits, src.regBits ++ nib rd] ++ src.dspBytes
  | .movuLoadIdx sz ri rb rd => [0xFE, 0b110#3 ++ sz.bits ++ nib ri, nib rb ++ nib rd]
  | .movuLoadAuto mode sz rs rd => [0xFD, 0b0011#4 ++ 0b1#1 ++ mode.bits ++ 0b0#1 ++ sz.bits, nib rs ++ nib rd]
  | .pop rd => [0x7E, 0b1011#4 ++ nib rd]
  | .popc cr => [0x7E, 0b1110#4 ++ cr.bits]
  | .popm rd rd2 => [0x6F, nib rd ++ nib rd2]
  | .pushR sz rs => [0x7E, 0b10#2 ++ sz.bits ++ nib rs]
  | .pushMem sz rs d => [0b111101#6 ++ d.bits, nib rs ++ 0b10#2 ++ sz.bits] ++ d.bytes
  | .pushc cr => [0x7E, 0b1100#4 ++ cr.bits]
  | .pushm rs rs2 => [0x6E, nib rs ++ nib rs2]
  | .revl rs rd => [0xFD, 0x67, nib rs ++ nib rd]
  | .revw rs rd => [0xFD, 0x65, nib rs ++ nib rd]
  | .sccnd cd sz dst => [0xFC, 0b1101#4 ++ sz.bits ++ dst.ldBits, dst.regBits ++ cd.bits] ++ dst.dspBytes
  | .stnz imm rd => [0xFD, 0b0111#4 ++ imm.bits ++ 0b00#2, 0b1111#4 ++ nib rd] ++ imm.bytes
  | .stz imm rd => [0xFD, 0b0111#4 ++ imm.bits ++ 0b00#2, 0b1110#4 ++ nib rd] ++ imm.bytes
  | .xchgRm src rd => [0xFC, 0b010000#6 ++ src.ldBits, src.regBits ++ nib rd] ++ src.dspBytes
  | .xchgMx mx rs d rd => [0x06, mx.bits ++ 0b1000#4 ++ d.bits, 0x10, nib rs ++ nib rd] ++ d.bytes
  | .bcndS c dist => [0b0001#4 ++ c.bits ++ dist]
  | .bcndB cd disp => [0b0010#4 ++ cd.bits, disp]
  | .bcndW c disp => [0b0011101#7 ++ c.bits] ++ le16 disp
  | .braS dist => [0b00001#5 ++ dist]
  | .braB disp => [0x2E, disp]
  | .braW disp => [0x38] ++ le16 disp
  | .braA disp => [0x04] ++ le24 disp
  | .braL rs => [0x7F, 0b0100#4 ++ nib rs]
  | .bsrW disp => [0x39] ++ le16 disp
  | .bsrA disp => [0x05] ++ le24 disp
  | .bsrL rs => [0x7F, 0b0101#4 ++ nib rs]
  | .jmp rs => [0x7F, 0b0000#4 ++ nib rs]
  | .jsr rs => [0x7F, 0b0001#4 ++ nib rs]
  | .rts => [0x02]
  | .rtsd imm => [0x67, imm]
  | .rtsdRange imm rd rd2 => [0x3F, nib rd ++ nib rd2, imm]
  | .bclrImmMem imm rd d => [0b111100#6 ++ d.bits, nib rd ++ 0b1#1 ++ imm] ++ d.bytes
  | .bclrRMem rs rd d => [0xFC, 0b011001#6 ++ d.bits, nib rd ++ nib rs] ++ d.bytes
  | .bclrImm imm rd => [0b0111101#7 ++ imm.extractLsb' 4 1, imm.extractLsb' 0 4 ++ nib rd]
  | .bclrRR rs rd => [0xFC, 0x67, nib rd ++ nib rs]
  | .bsetImmMem imm rd d => [0b111100#6 ++ d.bits, nib rd ++ 0b0#1 ++ imm] ++ d.bytes
  | .bsetRMem rs rd d => [0xFC, 0b011000#6 ++ d.bits, nib rd ++ nib rs] ++ d.bytes
  | .bsetImm imm rd => [0b0111100#7 ++ imm.extractLsb' 4 1, imm.extractLsb' 0 4 ++ nib rd]
  | .bsetRR rs rd => [0xFC, 0x63, nib rd ++ nib rs]
  | .btstImmMem imm rs2 d => [0b111101#6 ++ d.bits, nib rs2 ++ 0b0#1 ++ imm] ++ d.bytes
  | .btstRMem rs rs2 d => [0xFC, 0b011010#6 ++ d.bits, nib rs2 ++ nib rs] ++ d.bytes
  | .btstImm imm rs2 => [0b0111110#7 ++ imm.extractLsb' 4 1, imm.extractLsb' 0 4 ++ nib rs2]
  | .btstRR rs rs2 => [0xFC, 0x6B, nib rs2 ++ nib rs]
  | .bmcndMem cd imm rd d => [0xFC, 0b111#3 ++ imm ++ d.bits, nib rd ++ cd.bits] ++ d.bytes
  | .bmcndR cd imm rd => [0xFD, 0b111#3 ++ imm, cd.bits ++ nib rd]
  | .bnotImmMem imm rd d => [0xFC, 0b111#3 ++ imm ++ d.bits, nib rd ++ 0b1111#4] ++ d.bytes
  | .bnotRMem rs rd d => [0xFC, 0b011011#6 ++ d.bits, nib rd ++ nib rs] ++ d.bytes
  | .bnotImm imm rd => [0xFD, 0b111#3 ++ imm, 0b1111#4 ++ nib rd]
  | .bnotRR rs rd => [0xFC, 0x6F, nib rd ++ nib rs]
  | .scmpu => [0x7F, 0x83]
  | .smovb => [0x7F, 0x8B]
  | .smovf => [0x7F, 0x8F]
  | .smovu => [0x7F, 0x87]
  | .sstr sz => [0x7F, 0b100010#6 ++ sz.bits]
  | .suntil sz => [0x7F, 0b100000#6 ++ sz.bits]
  | .swhile sz => [0x7F, 0b100001#6 ++ sz.bits]
  | .setpsw cb => [0x7F, 0b1010#4 ++ cb.bits]
  | .clrpsw cb => [0x7F, 0b1011#4 ++ cb.bits]
  | .mvfc cr rd => [0xFD, 0x6A, cr.bits ++ nib rd]
  | .mvtcImm imm cr => [0xFD, 0b0111#4 ++ imm.bits ++ 0b11#2, 0b0000#4 ++ cr.bits] ++ imm.bytes
  | .mvtcR rs cr => [0xFD, 0x68, nib rs ++ cr.bits]
  | .mvtipl imm => [0x75, 0x70, 0b0000#4 ++ imm]
  | .brk => [0x00]
  | .int imm => [0x75, 0x60, imm]
  | .rte => [0x7F, 0x95]
  | .rtfi => [0x7F, 0x94]
  | .wait => [0x7F, 0x96]
  | .machi rs rs2 => [0xFD, 0x04, nib rs ++ nib rs2]
  | .maclo rs rs2 => [0xFD, 0x05, nib rs ++ nib rs2]
  | .mulhi rs rs2 => [0xFD, 0x00, nib rs ++ nib rs2]
  | .mullo rs rs2 => [0xFD, 0x01, nib rs ++ nib rs2]
  | .mvfachi rd => [0xFD, 0x1F, 0b0000#4 ++ nib rd]
  | .mvfacmi rd => [0xFD, 0x1F, 0b0010#4 ++ nib rd]
  | .mvtachi rs => [0xFD, 0x17, 0b0000#4 ++ nib rs]
  | .mvtaclo rs => [0xFD, 0x17, 0b0001#4 ++ nib rs]
  | .racw imm => [0xFD, 0x18, 0b000#3 ++ imm ++ 0b0000#4]

/-! ### Opcode-table words -/

/-- The n bytes of a number as spec/opcode_table.json numbers them: the LAST opcode byte holds bits 7 to 0 and
the first byte the highest bits, as the table's `match`, `mask` and `fixed` do (log entry 18). -/
def tableBytes : Nat → Nat → List Byte
  | 0, _ => []
  | n + 1, w => BitVec.ofNat 8 (w >>> (8 * n)) :: tableBytes n w

/-- The bytes of an opcode-table word followed by zeros, 8 bytes in all, the longest instruction (R120). -/
def tableInstr (nbits w : Nat) : List Byte :=
  (tableBytes (nbits / 8) w ++ List.replicate 8 0).take 8

/-- The instruction the decoder reads from an opcode-table word, on a product that has every instruction. -/
def decodeTableWord (nbits w : Nat) : Option Instr :=
  match decode Product.default (tableInstr nbits w) with
  | .instr i _ => some i
  | _ => none

end Sys2Proof
end

