-- ==== Sys2Proof/Machine/Fetch.lean ====
section
/-! DEFINITION. Fetching an instruction's bytes (spec/30_encoding.md R121, spec/60_exceptions.md R611, R612,
spec/20_memory.md R84, R96). -/

namespace Sys2Proof.Machine

/-- What the bytes at the PC are. -/
inductive Fetched where
  | instr (i : Instr)
  | undefined
  | fault
  deriving DecidableEq, Repr

/-- Read bytes in address order until they decode: a byte is checked and read only when the bytes before it do not
decide (R121, R611). At most 8 bytes are read (R120), so `n` = 9 never runs out. -/
def State.fetchFrom (s : State) : Nat → List Byte → Fetched
  | 0, _ => .undefined
  | n + 1, bytes =>
    match decode s.product bytes with
    | .instr i _ => .instr i
    | .undefined _ => .undefined
    | .short =>
      let a := s.after bytes.length
      if s.faultAt a 1 .fetch then .fault else s.fetchFrom n (bytes ++ [s.byteAt a])

/-- Fetch and decode at the PC. -/
def State.fetch (s : State) : Fetched := s.fetchFrom 9 []

end Sys2Proof.Machine
end

