-- ==== Sys2Proof/Machine/Step.lean ====
section
/-! DEFINITION. One step of the machine (spec/60_exceptions.md R608). -/

namespace Sys2Proof.Machine

/-- Fetch, decode and execute at the PC: a fetch fault comes before an undefined instruction (R606, R608, R611). -/
def State.runInstr (s : State) : Out :=
  match s.fetch with
  | .instr i => exec i s
  | .undefined => s.raise .undefined
  | .fault => s.raise .access

/-- One step: reset, NMI, an acceptable interrupt, the wait, or one instruction (R608). -/
def step (s : State) : Host.Outcome State Fault Refusal :=
  let t := s.sample
  if s.input.reset then t.doReset
  else if t.nmiPending then t.acceptNmi
  else
    match t.accepted s.input with
    | some irq => t.acceptIrq irq s.input.fastSource
    | none => if t.waiting then .next t else t.runInstr

/-- The state with an instruction of the opcode table, zeros after it, stored at the PC, and nothing before the
instruction for the next step: no wait, no pending NMI, no input (log entries 18, 19). -/
def State.withFetchWord (s : State) (nbits w : Nat) : State :=
  { s.putBytes s.pc (tableInstr nbits w) with waiting := false, nmiPending := false, inputs := [] }

end Sys2Proof.Machine
end

