-- ==== Sys2Proof/Laws/PerInstr.lean ====
section
/-! SUPPORT. What holds of every instruction as syntax, one lemma per constructor. -/

namespace Sys2Proof.Laws.EncodeLength

/-- An instruction is encoded in 1 to 8 bytes (R120). -/
def Statement (i : Instr) : Prop := 1 ≤ (encode i).length ∧ (encode i).length ≤ 8

theorem dsp_length (d : Dsp) : d.bytes.length ≤ 2 := by cases d <;> simp [Dsp.bytes, le16]

theorem rm_length (src : RegOrMem) : src.dspBytes.length ≤ 2 := by
  cases src with
  | reg _ => simp [RegOrMem.dspBytes]
  | mem _ d => exact dsp_length d

/-- A list of a known length from 1 to 8. -/
theorem closed {l : List Byte} (h1 : Nat.ble 1 l.length = true) (h8 : Nat.ble l.length 8 = true) :
    1 ≤ l.length ∧ l.length ≤ 8 := ⟨Nat.le_of_ble_eq_true h1, Nat.le_of_ble_eq_true h8⟩

/-- A list of a known length and one more field of at most n bytes. -/
theorem open1 {l x : List Byte} {n : Nat} (h1 : Nat.ble 1 l.length = true) (h8 : Nat.ble (l.length + n) 8 = true)
    (hx : x.length ≤ n) : 1 ≤ (l ++ x).length ∧ (l ++ x).length ≤ 8 := by
  have := Nat.le_of_ble_eq_true h1
  have := Nat.le_of_ble_eq_true h8
  simp only [List.length_append]
  omega

/-- A list of a known length and two more fields. -/
theorem open2 {l x y : List Byte} {n m : Nat} (h1 : Nat.ble 1 l.length = true)
    (h8 : Nat.ble (l.length + n + m) 8 = true) (hx : x.length ≤ n) (hy : y.length ≤ m) :
    1 ≤ (l ++ x ++ y).length ∧ (l ++ x ++ y).length ≤ 8 := by
  have := Nat.le_of_ble_eq_true h1
  have := Nat.le_of_ble_eq_true h8
  simp only [List.length_append]
  omega

theorem simm_length (v : Simm) : v.bytes.length ≤ 4 := by cases v <;> simp [Simm.bytes, le16, le24, le32]

theorem absR (rd : Reg) : Statement (.absR rd) := closed rfl rfl

theorem absRR (rs : Reg) (rd : Reg) : Statement (.absRR rs rd) := closed rfl rfl

theorem adcImm (imm : Simm) (rd : Reg) : Statement (.adcImm imm rd) := open1 rfl rfl (simm_length imm)

theorem adcRR (rs : Reg) (rd : Reg) : Statement (.adcRR rs rd) := closed rfl rfl

theorem adcMem (rs : Reg) (d : Dsp) (rd : Reg) : Statement (.adcMem rs d rd) := open1 rfl rfl (dsp_length d)

theorem addUimm4 (imm : BitVec 4) (rd : Reg) : Statement (.addUimm4 imm rd) := closed rfl rfl

theorem addRm (src : RegOrMem) (rd : Reg) : Statement (.addRm src rd) := open1 rfl rfl (rm_length src)

theorem addMx (mx : Memex) (rs : Reg) (d : Dsp) (rd : Reg) : Statement (.addMx mx rs d rd) := open1 rfl rfl (dsp_length d)

theorem addImm3 (imm : Simm) (rs2 : Reg) (rd : Reg) : Statement (.addImm3 imm rs2 rd) := open1 rfl rfl (simm_length imm)

theorem addRRR (rs : Reg) (rs2 : Reg) (rd : Reg) : Statement (.addRRR rs rs2 rd) := closed rfl rfl

theorem andUimm4 (imm : BitVec 4) (rd : Reg) : Statement (.andUimm4 imm rd) := closed rfl rfl

theorem andImm (imm : Simm) (rd : Reg) : Statement (.andImm imm rd) := open1 rfl rfl (simm_length imm)

theorem andRm (src : RegOrMem) (rd : Reg) : Statement (.andRm src rd) := open1 rfl rfl (rm_length src)

theorem andMx (mx : Memex) (rs : Reg) (d : Dsp) (rd : Reg) : Statement (.andMx mx rs d rd) := open1 rfl rfl (dsp_length d)

theorem andRRR (rs : Reg) (rs2 : Reg) (rd : Reg) : Statement (.andRRR rs rs2 rd) := closed rfl rfl

theorem cmpUimm4 (imm : BitVec 4) (rs2 : Reg) : Statement (.cmpUimm4 imm rs2) := closed rfl rfl

theorem cmpUimm8 (imm : BitVec 8) (rs2 : Reg) : Statement (.cmpUimm8 imm rs2) := closed rfl rfl

theorem cmpImm (imm : Simm) (rs2 : Reg) : Statement (.cmpImm imm rs2) := open1 rfl rfl (simm_length imm)

theorem cmpRm (src : RegOrMem) (rs2 : Reg) : Statement (.cmpRm src rs2) := open1 rfl rfl (rm_length src)

theorem cmpMx (mx : Memex) (rs : Reg) (d : Dsp) (rs2 : Reg) : Statement (.cmpMx mx rs d rs2) := open1 rfl rfl (dsp_length d)

theorem divImm (imm : Simm) (rd : Reg) : Statement (.divImm imm rd) := open1 rfl rfl (simm_length imm)

theorem divRm (src : RegOrMem) (rd : Reg) : Statement (.divRm src rd) := open1 rfl rfl (rm_length src)

theorem divMx (mx : Memex) (rs : Reg) (d : Dsp) (rd : Reg) : Statement (.divMx mx rs d rd) := open1 rfl rfl (dsp_length d)

theorem divuImm (imm : Simm) (rd : Reg) : Statement (.divuImm imm rd) := open1 rfl rfl (simm_length imm)

theorem divuRm (src : RegOrMem) (rd : Reg) : Statement (.divuRm src rd) := open1 rfl rfl (rm_length src)

theorem divuMx (mx : Memex) (rs : Reg) (d : Dsp) (rd : Reg) : Statement (.divuMx mx rs d rd) := open1 rfl rfl (dsp_length d)

theorem emulImm (imm : Simm) (rd : Reg) : Statement (.emulImm imm rd) := open1 rfl rfl (simm_length imm)

theorem emulRm (src : RegOrMem) (rd : Reg) : Statement (.emulRm src rd) := open1 rfl rfl (rm_length src)

theorem emulMx (mx : Memex) (rs : Reg) (d : Dsp) (rd : Reg) : Statement (.emulMx mx rs d rd) := open1 rfl rfl (dsp_length d)

theorem emuluImm (imm : Simm) (rd : Reg) : Statement (.emuluImm imm rd) := open1 rfl rfl (simm_length imm)

theorem emuluRm (src : RegOrMem) (rd : Reg) : Statement (.emuluRm src rd) := open1 rfl rfl (rm_length src)

theorem emuluMx (mx : Memex) (rs : Reg) (d : Dsp) (rd : Reg) : Statement (.emuluMx mx rs d rd) := open1 rfl rfl (dsp_length d)

theorem maxImm (imm : Simm) (rd : Reg) : Statement (.maxImm imm rd) := open1 rfl rfl (simm_length imm)

theorem maxRm (src : RegOrMem) (rd : Reg) : Statement (.maxRm src rd) := open1 rfl rfl (rm_length src)

theorem maxMx (mx : Memex) (rs : Reg) (d : Dsp) (rd : Reg) : Statement (.maxMx mx rs d rd) := open1 rfl rfl (dsp_length d)

theorem minImm (imm : Simm) (rd : Reg) : Statement (.minImm imm rd) := open1 rfl rfl (simm_length imm)

theorem minRm (src : RegOrMem) (rd : Reg) : Statement (.minRm src rd) := open1 rfl rfl (rm_length src)

theorem minMx (mx : Memex) (rs : Reg) (d : Dsp) (rd : Reg) : Statement (.minMx mx rs d rd) := open1 rfl rfl (dsp_length d)

theorem mulUimm4 (imm : BitVec 4) (rd : Reg) : Statement (.mulUimm4 imm rd) := closed rfl rfl

theorem mulImm (imm : Simm) (rd : Reg) : Statement (.mulImm imm rd) := open1 rfl rfl (simm_length imm)

theorem mulRm (src : RegOrMem) (rd : Reg) : Statement (.mulRm src rd) := open1 rfl rfl (rm_length src)

theorem mulMx (mx : Memex) (rs : Reg) (d : Dsp) (rd : Reg) : Statement (.mulMx mx rs d rd) := open1 rfl rfl (dsp_length d)

theorem mulRRR (rs : Reg) (rs2 : Reg) (rd : Reg) : Statement (.mulRRR rs rs2 rd) := closed rfl rfl

theorem negR (rd : Reg) : Statement (.negR rd) := closed rfl rfl

theorem negRR (rs : Reg) (rd : Reg) : Statement (.negRR rs rd) := closed rfl rfl

theorem nop : Statement (.nop) := closed rfl rfl

theorem notR (rd : Reg) : Statement (.notR rd) := closed rfl rfl

theorem notRR (rs : Reg) (rd : Reg) : Statement (.notRR rs rd) := closed rfl rfl

theorem orUimm4 (imm : BitVec 4) (rd : Reg) : Statement (.orUimm4 imm rd) := closed rfl rfl

theorem orImm (imm : Simm) (rd : Reg) : Statement (.orImm imm rd) := open1 rfl rfl (simm_length imm)

theorem orRm (src : RegOrMem) (rd : Reg) : Statement (.orRm src rd) := open1 rfl rfl (rm_length src)

theorem orMx (mx : Memex) (rs : Reg) (d : Dsp) (rd : Reg) : Statement (.orMx mx rs d rd) := open1 rfl rfl (dsp_length d)

theorem orRRR (rs : Reg) (rs2 : Reg) (rd : Reg) : Statement (.orRRR rs rs2 rd) := closed rfl rfl

theorem rmpa (sz : Size) : Statement (.rmpa sz) := closed rfl rfl

theorem rolc (rd : Reg) : Statement (.rolc rd) := closed rfl rfl

theorem rorc (rd : Reg) : Statement (.rorc rd) := closed rfl rfl

theorem rotlImm (imm : BitVec 5) (rd : Reg) : Statement (.rotlImm imm rd) := closed rfl rfl

theorem rotlRR (rs : Reg) (rd : Reg) : Statement (.rotlRR rs rd) := closed rfl rfl

theorem rotrImm (imm : BitVec 5) (rd : Reg) : Statement (.rotrImm imm rd) := closed rfl rfl

theorem rotrRR (rs : Reg) (rd : Reg) : Statement (.rotrRR rs rd) := closed rfl rfl

theorem sat (rd : Reg) : Statement (.sat rd) := closed rfl rfl

theorem satr : Statement (.satr) := closed rfl rfl

theorem sbbRR (rs : Reg) (rd : Reg) : Statement (.sbbRR rs rd) := closed rfl rfl

theorem sbbMem (rs : Reg) (d : Dsp) (rd : Reg) : Statement (.sbbMem rs d rd) := open1 rfl rfl (dsp_length d)

theorem sharImm (imm : BitVec 5) (rd : Reg) : Statement (.sharImm imm rd) := closed rfl rfl

theorem sharRR (rs : Reg) (rd : Reg) : Statement (.sharRR rs rd) := closed rfl rfl

theorem sharImm3 (imm : BitVec 5) (rs2 : Reg) (rd : Reg) : Statement (.sharImm3 imm rs2 rd) := closed rfl rfl

theorem shllImm (imm : BitVec 5) (rd : Reg) : Statement (.shllImm imm rd) := closed rfl rfl

theorem shllRR (rs : Reg) (rd : Reg) : Statement (.shllRR rs rd) := closed rfl rfl

theorem shllImm3 (imm : BitVec 5) (rs2 : Reg) (rd : Reg) : Statement (.shllImm3 imm rs2 rd) := closed rfl rfl

theorem shlrImm (imm : BitVec 5) (rd : Reg) : Statement (.shlrImm imm rd) := closed rfl rfl

theorem shlrRR (rs : Reg) (rd : Reg) : Statement (.shlrRR rs rd) := closed rfl rfl

theorem shlrImm3 (imm : BitVec 5) (rs2 : Reg) (rd : Reg) : Statement (.shlrImm3 imm rs2 rd) := closed rfl rfl

theorem subUimm4 (imm : BitVec 4) (rd : Reg) : Statement (.subUimm4 imm rd) := closed rfl rfl

theorem subRm (src : RegOrMem) (rd : Reg) : Statement (.subRm src rd) := open1 rfl rfl (rm_length src)

theorem subMx (mx : Memex) (rs : Reg) (d : Dsp) (rd : Reg) : Statement (.subMx mx rs d rd) := open1 rfl rfl (dsp_length d)

theorem subRRR (rs : Reg) (rs2 : Reg) (rd : Reg) : Statement (.subRRR rs rs2 rd) := closed rfl rfl

theorem tstImm (imm : Simm) (rs2 : Reg) : Statement (.tstImm imm rs2) := open1 rfl rfl (simm_length imm)

theorem tstRm (src : RegOrMem) (rs2 : Reg) : Statement (.tstRm src rs2) := open1 rfl rfl (rm_length src)

theorem tstMx (mx : Memex) (rs : Reg) (d : Dsp) (rs2 : Reg) : Statement (.tstMx mx rs d rs2) := open1 rfl rfl (dsp_length d)

theorem xorImm (imm : Simm) (rd : Reg) : Statement (.xorImm imm rd) := open1 rfl rfl (simm_length imm)

theorem xorRm (src : RegOrMem) (rd : Reg) : Statement (.xorRm src rd) := open1 rfl rfl (rm_length src)

theorem xorMx (mx : Memex) (rs : Reg) (d : Dsp) (rd : Reg) : Statement (.xorMx mx rs d rd) := open1 rfl rfl (dsp_length d)

theorem faddImm (imm : BitVec 32) (rd : Reg) : Statement (.faddImm imm rd) := closed rfl rfl

theorem faddRm (src : RegOrMem) (rd : Reg) : Statement (.faddRm src rd) := open1 rfl rfl (rm_length src)

theorem fcmpImm (imm : BitVec 32) (rs2 : Reg) : Statement (.fcmpImm imm rs2) := closed rfl rfl

theorem fcmpRm (src : RegOrMem) (rs2 : Reg) : Statement (.fcmpRm src rs2) := open1 rfl rfl (rm_length src)

theorem fdivImm (imm : BitVec 32) (rd : Reg) : Statement (.fdivImm imm rd) := closed rfl rfl

theorem fdivRm (src : RegOrMem) (rd : Reg) : Statement (.fdivRm src rd) := open1 rfl rfl (rm_length src)

theorem fmulImm (imm : BitVec 32) (rd : Reg) : Statement (.fmulImm imm rd) := closed rfl rfl

theorem fmulRm (src : RegOrMem) (rd : Reg) : Statement (.fmulRm src rd) := open1 rfl rfl (rm_length src)

theorem fsubImm (imm : BitVec 32) (rd : Reg) : Statement (.fsubImm imm rd) := closed rfl rfl

theorem fsubRm (src : RegOrMem) (rd : Reg) : Statement (.fsubRm src rd) := open1 rfl rfl (rm_length src)

theorem ftoiRm (src : RegOrMem) (rd : Reg) : Statement (.ftoiRm src rd) := open1 rfl rfl (rm_length src)

theorem roundRm (src : RegOrMem) (rd : Reg) : Statement (.roundRm src rd) := open1 rfl rfl (rm_length src)

theorem itofRm (src : RegOrMem) (rd : Reg) : Statement (.itofRm src rd) := open1 rfl rfl (rm_length src)

theorem itofMx (mx : Memex) (rs : Reg) (d : Dsp) (rd : Reg) : Statement (.itofMx mx rs d rd) := open1 rfl rfl (dsp_length d)

theorem movStoreD5 (sz : Size) (rs : LowReg) (d : BitVec 5) (rd : LowReg) : Statement (.movStoreD5 sz rs d rd) := closed rfl rfl

theorem movLoadD5 (sz : Size) (d : BitVec 5) (rs : LowReg) (rd : LowReg) : Statement (.movLoadD5 sz d rs rd) := closed rfl rfl

theorem movUimm4 (imm : BitVec 4) (rd : Reg) : Statement (.movUimm4 imm rd) := closed rfl rfl

theorem movImmD5 (sz : Size) (imm : BitVec 8) (d : BitVec 5) (rd : LowReg) : Statement (.movImmD5 sz imm d rd) := closed rfl rfl

theorem movUimm8 (imm : BitVec 8) (rd : Reg) : Statement (.movUimm8 imm rd) := closed rfl rfl

theorem movImm (imm : Simm) (rd : Reg) : Statement (.movImm imm rd) := open1 rfl rfl (simm_length imm)

theorem movRR (sz : Size) (rs : Reg) (rd : Reg) : Statement (.movRR sz rs rd) := closed rfl rfl

theorem movImmMem (sz : Size) (imm : Simm) (rd : Reg) (d : Dsp) : Statement (.movImmMem sz imm rd d) := open2 rfl rfl (dsp_length d) (simm_length imm)

theorem movLoad (sz : Size) (rs : Reg) (d : Dsp) (rd : Reg) : Statement (.movLoad sz rs d rd) := open1 rfl rfl (dsp_length d)

theorem movLoadIdx (sz : Size) (ri : Reg) (rb : Reg) (rd : Reg) : Statement (.movLoadIdx sz ri rb rd) := closed rfl rfl

theorem movStore (sz : Size) (rs : Reg) (rd : Reg) (d : Dsp) : Statement (.movStore sz rs rd d) := open1 rfl rfl (dsp_length d)

theorem movStoreIdx (sz : Size) (rs : Reg) (ri : Reg) (rb : Reg) : Statement (.movStoreIdx sz rs ri rb) := closed rfl rfl

theorem movMemMem (sz : Size) (rs : Reg) (ds : Dsp) (rd : Reg) (dd : Dsp) : Statement (.movMemMem sz rs ds rd dd) := open2 rfl rfl (dsp_length ds) (dsp_length dd)

theorem movStoreAuto (mode : Auto) (sz : Size) (rs : Reg) (rd : Reg) : Statement (.movStoreAuto mode sz rs rd) := closed rfl rfl

theorem movLoadAuto (mode : Auto) (sz : Size) (rs : Reg) (rd : Reg) : Statement (.movLoadAuto mode sz rs rd) := closed rfl rfl

theorem movuLoadD5 (sz : MovuSize) (d : BitVec 5) (rs : LowReg) (rd : LowReg) : Statement (.movuLoadD5 sz d rs rd) := closed rfl rfl

theorem movuRm (sz : MovuSize) (src : RegOrMem) (rd : Reg) : Statement (.movuRm sz src rd) := open1 rfl rfl (rm_length src)

theorem movuLoadIdx (sz : MovuSize) (ri : Reg) (rb : Reg) (rd : Reg) : Statement (.movuLoadIdx sz ri rb rd) := closed rfl rfl

theorem movuLoadAuto (mode : Auto) (sz : MovuSize) (rs : Reg) (rd : Reg) : Statement (.movuLoadAuto mode sz rs rd) := closed rfl rfl

theorem pop (rd : Reg) : Statement (.pop rd) := closed rfl rfl

theorem popc (cr : CReg) : Statement (.popc cr) := closed rfl rfl

theorem popm (rd : Reg) (rd2 : Reg) : Statement (.popm rd rd2) := closed rfl rfl

theorem pushR (sz : Size) (rs : Reg) : Statement (.pushR sz rs) := closed rfl rfl

theorem pushMem (sz : Size) (rs : Reg) (d : Dsp) : Statement (.pushMem sz rs d) := open1 rfl rfl (dsp_length d)

theorem pushc (cr : CReg) : Statement (.pushc cr) := closed rfl rfl

theorem pushm (rs : Reg) (rs2 : Reg) : Statement (.pushm rs rs2) := closed rfl rfl

theorem revl (rs : Reg) (rd : Reg) : Statement (.revl rs rd) := closed rfl rfl

theorem revw (rs : Reg) (rd : Reg) : Statement (.revw rs rd) := closed rfl rfl

theorem sccnd (cd : Cond) (sz : Size) (dst : RegOrMem) : Statement (.sccnd cd sz dst) := open1 rfl rfl (rm_length dst)

theorem stnz (imm : Simm) (rd : Reg) : Statement (.stnz imm rd) := open1 rfl rfl (simm_length imm)

theorem stz (imm : Simm) (rd : Reg) : Statement (.stz imm rd) := open1 rfl rfl (simm_length imm)

theorem xchgRm (src : RegOrMem) (rd : Reg) : Statement (.xchgRm src rd) := open1 rfl rfl (rm_length src)

theorem xchgMx (mx : Memex) (rs : Reg) (d : Dsp) (rd : Reg) : Statement (.xchgMx mx rs d rd) := open1 rfl rfl (dsp_length d)

theorem bcndS (c : EqNe) (dist : BitVec 3) : Statement (.bcndS c dist) := closed rfl rfl

theorem bcndB (cd : Cond) (disp : BitVec 8) : Statement (.bcndB cd disp) := closed rfl rfl

theorem bcndW (c : EqNe) (disp : BitVec 16) : Statement (.bcndW c disp) := closed rfl rfl

theorem braS (dist : BitVec 3) : Statement (.braS dist) := closed rfl rfl

theorem braB (disp : BitVec 8) : Statement (.braB disp) := closed rfl rfl

theorem braW (disp : BitVec 16) : Statement (.braW disp) := closed rfl rfl

theorem braA (disp : BitVec 24) : Statement (.braA disp) := closed rfl rfl

theorem braL (rs : Reg) : Statement (.braL rs) := closed rfl rfl

theorem bsrW (disp : BitVec 16) : Statement (.bsrW disp) := closed rfl rfl

theorem bsrA (disp : BitVec 24) : Statement (.bsrA disp) := closed rfl rfl

theorem bsrL (rs : Reg) : Statement (.bsrL rs) := closed rfl rfl

theorem jmp (rs : Reg) : Statement (.jmp rs) := closed rfl rfl

theorem jsr (rs : Reg) : Statement (.jsr rs) := closed rfl rfl

theorem rts : Statement (.rts) := closed rfl rfl

theorem rtsd (imm : BitVec 8) : Statement (.rtsd imm) := closed rfl rfl

theorem rtsdRange (imm : BitVec 8) (rd : Reg) (rd2 : Reg) : Statement (.rtsdRange imm rd rd2) := closed rfl rfl

theorem bclrImmMem (imm : BitVec 3) (rd : Reg) (d : Dsp) : Statement (.bclrImmMem imm rd d) := open1 rfl rfl (dsp_length d)

theorem bclrRMem (rs : Reg) (rd : Reg) (d : Dsp) : Statement (.bclrRMem rs rd d) := open1 rfl rfl (dsp_length d)

theorem bclrImm (imm : BitVec 5) (rd : Reg) : Statement (.bclrImm imm rd) := closed rfl rfl

theorem bclrRR (rs : Reg) (rd : Reg) : Statement (.bclrRR rs rd) := closed rfl rfl

theorem bsetImmMem (imm : BitVec 3) (rd : Reg) (d : Dsp) : Statement (.bsetImmMem imm rd d) := open1 rfl rfl (dsp_length d)

theorem bsetRMem (rs : Reg) (rd : Reg) (d : Dsp) : Statement (.bsetRMem rs rd d) := open1 rfl rfl (dsp_length d)

theorem bsetImm (imm : BitVec 5) (rd : Reg) : Statement (.bsetImm imm rd) := closed rfl rfl

theorem bsetRR (rs : Reg) (rd : Reg) : Statement (.bsetRR rs rd) := closed rfl rfl

theorem btstImmMem (imm : BitVec 3) (rs2 : Reg) (d : Dsp) : Statement (.btstImmMem imm rs2 d) := open1 rfl rfl (dsp_length d)

theorem btstRMem (rs : Reg) (rs2 : Reg) (d : Dsp) : Statement (.btstRMem rs rs2 d) := open1 rfl rfl (dsp_length d)

theorem btstImm (imm : BitVec 5) (rs2 : Reg) : Statement (.btstImm imm rs2) := closed rfl rfl

theorem btstRR (rs : Reg) (rs2 : Reg) : Statement (.btstRR rs rs2) := closed rfl rfl

theorem bmcndMem (cd : Cond) (imm : BitVec 3) (rd : Reg) (d : Dsp) : Statement (.bmcndMem cd imm rd d) := open1 rfl rfl (dsp_length d)

theorem bmcndR (cd : Cond) (imm : BitVec 5) (rd : Reg) : Statement (.bmcndR cd imm rd) := closed rfl rfl

theorem bnotImmMem (imm : BitVec 3) (rd : Reg) (d : Dsp) : Statement (.bnotImmMem imm rd d) := open1 rfl rfl (dsp_length d)

theorem bnotRMem (rs : Reg) (rd : Reg) (d : Dsp) : Statement (.bnotRMem rs rd d) := open1 rfl rfl (dsp_length d)

theorem bnotImm (imm : BitVec 5) (rd : Reg) : Statement (.bnotImm imm rd) := closed rfl rfl

theorem bnotRR (rs : Reg) (rd : Reg) : Statement (.bnotRR rs rd) := closed rfl rfl

theorem scmpu : Statement (.scmpu) := closed rfl rfl

theorem smovb : Statement (.smovb) := closed rfl rfl

theorem smovf : Statement (.smovf) := closed rfl rfl

theorem smovu : Statement (.smovu) := closed rfl rfl

theorem sstr (sz : Size) : Statement (.sstr sz) := closed rfl rfl

theorem suntil (sz : Size) : Statement (.suntil sz) := closed rfl rfl

theorem swhile (sz : Size) : Statement (.swhile sz) := closed rfl rfl

theorem setpsw (cb : PswBit) : Statement (.setpsw cb) := closed rfl rfl

theorem clrpsw (cb : PswBit) : Statement (.clrpsw cb) := closed rfl rfl

theorem mvfc (cr : CReg) (rd : Reg) : Statement (.mvfc cr rd) := closed rfl rfl

theorem mvtcImm (imm : Simm) (cr : CReg) : Statement (.mvtcImm imm cr) := open1 rfl rfl (simm_length imm)

theorem mvtcR (rs : Reg) (cr : CReg) : Statement (.mvtcR rs cr) := closed rfl rfl

theorem mvtipl (imm : BitVec 4) : Statement (.mvtipl imm) := closed rfl rfl

theorem brk : Statement (.brk) := closed rfl rfl

theorem int (imm : BitVec 8) : Statement (.int imm) := closed rfl rfl

theorem rte : Statement (.rte) := closed rfl rfl

theorem rtfi : Statement (.rtfi) := closed rfl rfl

theorem wait : Statement (.wait) := closed rfl rfl

theorem machi (rs : Reg) (rs2 : Reg) : Statement (.machi rs rs2) := closed rfl rfl

theorem maclo (rs : Reg) (rs2 : Reg) : Statement (.maclo rs rs2) := closed rfl rfl

theorem mulhi (rs : Reg) (rs2 : Reg) : Statement (.mulhi rs rs2) := closed rfl rfl

theorem mullo (rs : Reg) (rs2 : Reg) : Statement (.mullo rs rs2) := closed rfl rfl

theorem mvfachi (rd : Reg) : Statement (.mvfachi rd) := closed rfl rfl

theorem mvfacmi (rd : Reg) : Statement (.mvfacmi rd) := closed rfl rfl

theorem mvtachi (rs : Reg) : Statement (.mvtachi rs) := closed rfl rfl

theorem mvtaclo (rs : Reg) : Statement (.mvtaclo rs) := closed rfl rfl

theorem racw (imm : BitVec 1) : Statement (.racw imm) := closed rfl rfl

end Sys2Proof.Laws.EncodeLength
end

