-- ==== Sys2Proof/Safety.lean ====
section
/-! DEFINITION. The terms claims are stated in: legal states, completion, and what an instruction leaves unchanged
(its frame). -/

namespace Sys2Proof

/-- The bytes are no instruction, whatever follows them. -/
def Rejects (p : Product) (bytes : List Byte) : Prop := ∀ rest, ∃ why, decode p (bytes ++ rest) = .undefined why

end Sys2Proof

namespace Sys2Proof.Machine

/-! ### Legal states -/

/-- A PSW whose IPL fits the product's width (R30, R32). -/
abbrev Psw.Fits (ipl3 : Bool) (p : Psw) : Prop := ipl3 = true → p.ipl.toNat ≤ 7

/-- The states a run can reach: memory in canonical form, IPL in the product's width (R32), and in user mode the
user stack pointer selected (R35). -/
structure State.Legal (s : State) : Prop where
  memory : Memory.wf s.mem = true
  psw : s.psw.Fits s.product.ipl3
  bpsw : s.bpsw.Fits s.product.ipl3
  userStack : s.psw.pm = true → s.psw.u = true

/-! ### Completion -/

/-- The instruction runs to a next state of which P holds. -/
def Completes (i : Instr) (s : State) (P : State → Prop) : Prop := ∃ t, exec i s = .next t ∧ P t

/-- An outcome that is a next state of which P holds. -/
def Reaches (o : Out) (P : State → Prop) : Prop := ∃ t, o = .next t ∧ P t

/-! ### Frames -/

/-- A named bit of the PSW (R34). -/
def Psw.bit (p : Psw) : PswBit → Bool
  | .c => p.c
  | .z => p.z
  | .s => p.s
  | .o => p.o
  | .i => p.i
  | .u => p.u

/-- The stack pointer PSW.U does not select (R21). -/
def State.otherSp (s : State) : Word := if s.psw.u then s.isp else s.usp

/-- The general registers but those listed are unchanged, the unselected stack pointer too. -/
structure SameRegs (but : List Reg) (s t : State) : Prop where
  regs : ∀ r, r ∉ but → t.reg r = s.reg r
  otherSp : t.otherSp = s.otherSp

/-- The PSW but the bits listed is unchanged. -/
structure SamePsw (but : List PswBit) (s t : State) : Prop where
  bits : ∀ b, b ∉ but → t.psw.bit b = s.psw.bit b
  pm : t.psw.pm = s.psw.pm
  ipl : t.psw.ipl = s.psw.ipl

/-- The registers only control instructions and exceptions write, and what only a step outside instructions
writes. -/
structure SameControl (s t : State) : Prop where
  intb : t.intb = s.intb
  bpc : t.bpc = s.bpc
  bpsw : t.bpsw = s.bpsw
  fintv : t.fintv = s.fintv
  waiting : t.waiting = s.waiting
  nmiPending : t.nmiPending = s.nmiPending
  product : t.product = s.product
  inputs : t.inputs = s.inputs
  ack : t.ack = s.ack
  rmpa : t.rmpa = s.rmpa

/-- Every byte of memory is unchanged. -/
def SameMemory (s t : State) : Prop := ∀ a, t.byteAt a = s.byteAt a

/-- Every byte of memory is unchanged but the n bytes from an address on. -/
def SameMemoryBut (a : Word) (n : Nat) (s t : State) : Prop :=
  ∀ b, (∀ k < n, b ≠ a + BitVec.ofNat 32 k) → t.byteAt b = s.byteAt b

/-- Everything but the listed registers, the listed PSW bits and the PC is unchanged: memory, FPSW and ACC too. -/
structure Frame (regs : List Reg) (bits : List PswBit) (s t : State) : Prop where
  regs : SameRegs regs s t
  psw : SamePsw bits s t
  control : SameControl s t
  fpsw : t.fpsw = s.fpsw
  acc : t.acc = s.acc
  memory : SameMemory s t

/-- As `Frame`, but ACC may change (MUL, EMUL, EMULU). -/
structure FrameAcc (regs : List Reg) (bits : List PswBit) (s t : State) : Prop where
  regs : SameRegs regs s t
  psw : SamePsw bits s t
  control : SameControl s t
  fpsw : t.fpsw = s.fpsw
  memory : SameMemory s t

/-- As `Frame`, but the n bytes of memory from `a` on may change too. -/
structure FrameStore (regs : List Reg) (a : Word) (n : Nat) (s t : State) : Prop where
  regs : SameRegs regs s t
  psw : t.psw = s.psw
  control : SameControl s t
  fpsw : t.fpsw = s.fpsw
  acc : t.acc = s.acc
  memory : SameMemoryBut a n s t

/-- As `Frame`, but FPSW may change. -/
structure FrameFp (regs : List Reg) (bits : List PswBit) (s t : State) : Prop where
  regs : SameRegs regs s t
  psw : SamePsw bits s t
  control : SameControl s t
  memory : SameMemory s t

/-! ### Operands that can be read -/

/-- n bytes from an address on can be read in the present mode. -/
abbrev State.Readable (s : State) (a : Word) (n : Nat) : Prop := s.faultAt a n .read = false

/-- n bytes from an address on can be written in the present mode. -/
abbrev State.Writable (s : State) (a : Word) (n : Nat) : Prop := s.faultAt a n .write = false

/-- A register or .UB memory operand can be read and has this value (R200, R111). -/
def State.RmIs (s : State) (src : RegOrMem) (v : Word) : Prop :=
  match src with
  | .reg r => v = s.reg r
  | .mem b d => s.Readable (s.reg b + d.field) 1 ∧ v = (s.byteAt (s.reg b + d.field)).setWidth 32

/-- A memory operand with a size-extension specifier can be read and has this value (R200, R111). -/
def State.MxIs (s : State) (mx : Memex) (rs : Reg) (d : Dsp) (v : Word) : Prop :=
  s.Readable (s.ea rs d mx.size) mx.size.bytes ∧ v = mx.extend (s.peek (s.ea rs d mx.size) mx.size)

/-- A longword memory operand can be read and has this value (R203, R334). -/
def State.LongIs (s : State) (rs : Reg) (d : Dsp) (v : Word) : Prop :=
  s.Readable (s.reg rs + 4 * d.field) 4 ∧ v = s.peek (s.reg rs + 4 * d.field) .l

/-- A register or longword memory operand can be read and has this value (R334). -/
def State.LIs (s : State) (src : RegOrMem) (v : Word) : Prop :=
  match src with
  | .reg r => v = s.reg r
  | .mem b d => s.LongIs b d v

/-! ### Operand forms -/

/-- The form completes with P for every register or .UB memory source that can be read; P takes the value and the
length. -/
def State.EachRm (s : State) (form : RegOrMem → Instr) (n : Nat) (P : Word → Nat → State → Prop) : Prop :=
  ∀ src v, s.RmIs src v → Completes (form src) s (P v (n + src.len))

/-- The form completes with P for every memory source with `mi` that can be read. -/
def State.EachMx (s : State) (form : Memex → Reg → Dsp → Instr) (n : Nat) (P : Word → Nat → State → Prop) : Prop :=
  ∀ mx rs d v, s.MxIs mx rs d v → Completes (form mx rs d) s (P v (n + d.len))

/-- The form completes with P for every longword memory source that can be read. -/
def State.EachLong (s : State) (form : Reg → Dsp → Instr) (n : Nat) (P : Word → Nat → State → Prop) : Prop :=
  ∀ rs d v, s.LongIs rs d v → Completes (form rs d) s (P v (n + d.len))

/-- The form completes with P for every immediate of `li`. -/
def State.EachImm (s : State) (form : Simm → Instr) (n : Nat) (P : Word → Nat → State → Prop) : Prop :=
  ∀ imm, Completes (form imm) s (P imm.value (n + imm.len))

/-! ### Results -/

/-- Z is 1 exactly for a value of 0, S exactly for a negative one (R8). -/
structure ZsOf (v : Word) (t : State) : Prop where
  z : t.psw.z = true ↔ v.toNat = 0
  s : t.psw.s = true ↔ v.toInt < 0

/-- n bytes further, rd holds v, and besides it only the listed PSW bits may differ. -/
structure Wrote (rd : Reg) (v : Word) (bits : List PswBit) (n : Nat) (s t : State) : Prop where
  value : t.reg rd = v
  pc : t.pc = s.after n
  frame : Frame [rd] bits s t

/-- n bytes further, only the listed PSW bits may differ. -/
structure Flagged (bits : List PswBit) (n : Nat) (s t : State) : Prop where
  pc : t.pc = s.after n
  frame : Frame [] bits s t

/-- r is a + b + carry in modulo 2^32; C is the unsigned and O the signed overflow (R8 `addflags`). -/
structure SumFlags (a b : Word) (cin : Bool) (r : Word) (t : State) : Prop where
  value : r.toNat = (a.toNat + b.toNat + cin.toNat) % 2 ^ 32
  carry : t.psw.c = true ↔ 2 ^ 32 ≤ a.toNat + b.toNat + cin.toNat
  overflow : t.psw.o = true ↔ a.toInt + b.toInt + cin.toNat ≠ r.toInt
  zs : ZsOf r t

/-- r is a - b - borrow in modulo 2^32; C is 1 without a borrow, O is the signed overflow (R8 `subflags`). -/
structure DifferenceFlags (a b : Word) (bin : Bool) (r : Word) (t : State) : Prop where
  value : r.toNat = (a.toNat + 2 ^ 32 - (b.toNat + bin.toNat)) % 2 ^ 32
  carry : t.psw.c = true ↔ b.toNat + bin.toNat ≤ a.toNat
  overflow : t.psw.o = true ↔ a.toInt - b.toInt - bin.toNat ≠ r.toInt
  zs : ZsOf r t

/-- rd holds the sum, with its flags. -/
def HoldsSum (rd : Reg) (a b : Word) (cin : Bool) (n : Nat) (s t : State) : Prop :=
  ∃ r, SumFlags a b cin r t ∧ Wrote rd r [.c, .z, .s, .o] n s t

/-- rd holds the difference, with its flags. -/
def HoldsDifference (rd : Reg) (a b : Word) (bin : Bool) (n : Nat) (s t : State) : Prop :=
  ∃ r, DifferenceFlags a b bin r t ∧ Wrote rd r [.c, .z, .s, .o] n s t

/-- The flags are those of the difference; no register is written. -/
def Compared (a b : Word) (n : Nat) (s t : State) : Prop :=
  (∃ r, DifferenceFlags a b false r t) ∧ Flagged [.c, .z, .s, .o] n s t

/-- rd holds v, with Z and S of it. -/
def HoldsLogic (rd : Reg) (v : Word) (n : Nat) (s t : State) : Prop := ZsOf v t ∧ Wrote rd v [.z, .s] n s t

/-- Z and S are those of v; no register is written. -/
def Tested (v : Word) (n : Nat) (s t : State) : Prop := ZsOf v t ∧ Flagged [.z, .s] n s t

/-- rd holds the low 32 bits of the product; ACC is free. -/
structure Product32 (rd : Reg) (a b : Word) (n : Nat) (s t : State) : Prop where
  value : (t.reg rd).toNat = a.toNat * b.toNat % 2 ^ 32
  pc : t.pc = s.after n
  frame : FrameAcc [rd] [] s t

/-- R(rd+1):Rd holds the exact signed product; ACC is free. -/
structure SignedProduct64 (rd : Reg) (a b : Word) (n : Nat) (s t : State) : Prop where
  value : (t.reg rd.next ++ t.reg rd).toInt = a.toInt * b.toInt
  pc : t.pc = s.after n
  frame : FrameAcc [rd, rd.next] [] s t

/-- R(rd+1):Rd holds the exact unsigned product; ACC is free. -/
structure UnsignedProduct64 (rd : Reg) (a b : Word) (n : Nat) (s t : State) : Prop where
  value : (t.reg rd.next ++ t.reg rd).toNat = a.toNat * b.toNat
  pc : t.pc = s.after n
  frame : FrameAcc [rd, rd.next] [] s t

/-- O says whether the quotient is undefined; where it is not, rd holds it (R207, R208). -/
structure Divided (rd : Reg) (undefined : Prop) (quotient : Prop) (n : Nat) (s t : State) : Prop where
  overflow : t.psw.o = true ↔ undefined
  value : ¬undefined → quotient
  pc : t.pc = s.after n
  frame : Frame [rd] [.o] s t

/-- rd holds the quotient of a by b toward zero (R207). -/
def HoldsQuotient (rd : Reg) (a b : Word) (n : Nat) (s t : State) : Prop :=
  Divided rd (b.toInt = 0 ∨ (a.toInt = -2 ^ 31 ∧ b.toInt = -1)) ((t.reg rd).toInt = a.toInt.tdiv b.toInt) n s t

/-- rd holds the unsigned quotient of a by b (R208). -/
def HoldsUnsignedQuotient (rd : Reg) (a b : Word) (n : Nat) (s t : State) : Prop :=
  Divided rd (b.toNat = 0) ((t.reg rd).toNat = a.toNat / b.toNat) n s t

/-- rd holds the value with this signed reading, and nothing else changed. -/
def HoldsInt (rd : Reg) (v : Int) (n : Nat) (s t : State) : Prop := ∃ r : Word, r.toInt = v ∧ Wrote rd r [] n s t

/-- rd holds a shifted right by k with copies of the sign; C is the last bit out, O is 0 (R268). -/
def ShiftedArithmetic (rd : Reg) (a : Word) (k n : Nat) (s t : State) : Prop :=
  ∃ r : Word, r.toInt = a.toInt / 2 ^ k ∧ (t.psw.c = true ↔ k ≠ 0 ∧ a.getLsbD (k - 1) = true) ∧ t.psw.o = false ∧
    ZsOf r t ∧ Wrote rd r [.c, .z, .s, .o] n s t

/-- rd holds a shifted right by k with zeros; C is the last bit out, O is kept (R270). -/
def ShiftedRight (rd : Reg) (a : Word) (k n : Nat) (s t : State) : Prop :=
  ∃ r : Word, r.toNat = a.toNat / 2 ^ k ∧ (t.psw.c = true ↔ k ≠ 0 ∧ a.getLsbD (k - 1) = true) ∧
    ZsOf r t ∧ Wrote rd r [.c, .z, .s] n s t

/-- rd holds a shifted left by k; C is the last bit out, O says that the sign changed on the way (R269). -/
def ShiftedLeft (rd : Reg) (a : Word) (k n : Nat) (s t : State) : Prop :=
  ∃ r : Word, r.toNat = a.toNat * 2 ^ k % 2 ^ 32 ∧ (t.psw.c = true ↔ k ≠ 0 ∧ a.getLsbD (32 - k) = true) ∧
    (t.psw.o = true ↔ a.toInt * 2 ^ k ≠ r.toInt) ∧ ZsOf r t ∧ Wrote rd r [.c, .z, .s, .o] n s t

/-- rd holds a rotated left by k; C is the new bit 0 (R263). -/
def RotatedLeft (rd : Reg) (a : Word) (k n : Nat) (s t : State) : Prop :=
  ∃ r : Word, (∀ j < 32, r.getLsbD ((j + k) % 32) = a.getLsbD j) ∧ t.psw.c = r.getLsbD 0 ∧
    ZsOf r t ∧ Wrote rd r [.c, .z, .s] n s t

/-- rd holds a rotated right by k; C is the new bit 31 (R264). -/
def RotatedRight (rd : Reg) (a : Word) (k n : Nat) (s t : State) : Prop :=
  ∃ r : Word, (∀ j < 32, r.getLsbD j = a.getLsbD ((j + k) % 32)) ∧ t.psw.c = r.getLsbD 31 ∧
    ZsOf r t ∧ Wrote rd r [.c, .z, .s] n s t

/-! ### Stores, stack and jumps -/

/-- n bytes further, the low bytes of v stand at a; of the rest only the listed registers may differ. -/
structure Stored (regs : List Reg) (a : Word) (sz : Size) (v : Word) (n : Nat) (s t : State) : Prop where
  value : t.peek a sz = sz.zeroExtend v
  pc : t.pc = s.after n
  frame : FrameStore regs a sz.bytes s t

/-- A longword whose low bytes are those of v is on the stack below the old top, and the PC is as given. -/
structure Pushed (sz : Size) (v pc : Word) (s t : State) : Prop where
  value : sz.zeroExtend (t.peek (s.reg 0 - 4) .l) = sz.zeroExtend v
  sp : t.reg 0 = s.reg 0 - 4
  pc : t.pc = pc
  frame : FrameStore [0] (s.reg 0 - 4) 4 s t

/-- A value is in rd and the address register rs is updated; where both are one register the value is there
(R106, R107, R382 (15)). -/
structure LoadedAuto (rs rd : Reg) (v addr : Word) (n : Nat) (s t : State) : Prop where
  value : t.reg rd = v
  address : rs ≠ rd → t.reg rs = addr
  pc : t.pc = s.after n
  frame : Frame [rs, rd] [] s t

/-- The PC is as given, and nothing else changed. -/
structure Jumped (pc : Word) (s t : State) : Prop where
  pc : t.pc = pc
  frame : Frame [] [] s t

/-- What `ctrl_write` leaves (R541), with the PC n bytes further. -/
structure CtrlWritten (cr : CReg) (v : Word) (n : Nat) (s t : State) : Prop where
  psw : t.psw = if cr = .psw then s.psw.write s.product.ipl3 v else s.psw
  fpsw : t.fpsw = if cr = .fpsw ∧ s.product.hasFpu = true then s.fpsw.write v else s.fpsw
  usp : t.usp = if cr = .usp then v else s.usp
  isp : t.isp = if cr = .isp ∧ s.psw.pm = false then v else s.isp
  bpsw : t.bpsw = if cr = .bpsw ∧ s.psw.pm = false then Psw.ofWord s.product.ipl3 v else s.bpsw
  bpc : t.bpc = if cr = .bpc ∧ s.psw.pm = false then v else s.bpc
  fintv : t.fintv = if cr = .fintv ∧ s.psw.pm = false then v else s.fintv
  intb : t.intb = if cr = .intb ∧ s.psw.pm = false then v else s.intb
  pc : t.pc = s.after n
  regs : t.regs = s.regs
  acc : t.acc = s.acc
  waiting : t.waiting = s.waiting
  nmiPending : t.nmiPending = s.nmiPending
  product : t.product = s.product
  inputs : t.inputs = s.inputs
  ack : t.ack = s.ack
  rmpa : t.rmpa = s.rmpa
  memory : SameMemory s t

/-! ### Bits -/

/-- r is a with bit k set to v. -/
def BitIs {w : Nat} (r a : BitVec w) (k : Nat) (v : Bool) : Prop :=
  ∀ j < w, r.getLsbD j = if j = k then v else a.getLsbD j

/-- Bit k of rd is v, and nothing else changed. -/
def WroteBit (rd : Reg) (k : Nat) (v : Bool) (n : Nat) (s t : State) : Prop :=
  ∃ r : Word, BitIs r (s.reg rd) k v ∧ Wrote rd r [] n s t

/-- Bit k of the byte at a is v, and nothing else changed. -/
structure StoredBit (a : Word) (k : Nat) (v : Bool) (n : Nat) (s t : State) : Prop where
  value : BitIs (t.byteAt a) (s.byteAt a) k v
  pc : t.pc = s.after n
  frame : FrameStore [] a 1 s t

/-- C is the bit and Z its complement; nothing else changed. -/
def TestedBit (v : Bool) (n : Nat) (s t : State) : Prop :=
  t.psw.c = v ∧ t.psw.z = !v ∧ Flagged [.c, .z] n s t

/-! ### Exceptions -/

/-- The three accesses of an entry do not fault; they are made in supervisor mode (R607). -/
structure State.CanEnter (s : State) (vec : Word) : Prop where
  savePsw : s.product.memFault (s.isp - 4) 4 .write false = false
  savePc : s.product.memFault (s.isp - 8) 4 .write false = false
  vector : s.product.memFault vec 4 .read false = false

/-- The state exception entry leaves (R607): PSW and PC on the interrupt stack, I, U and PM 0, the PC from the
vector, an RMPA under way suspended (log entry 14), everything else as it was. -/
structure Entered (vec : Word) (ipl : BitVec 4) (savedPc : Word) (s t : State) : Prop where
  psw : t.psw = { s.psw with i := false, u := false, pm := false, ipl := ipl }
  isp : t.isp = s.isp - 8
  rmpa : t.rmpa = s.rmpa.suspend savedPc
  savedPsw : t.peek (s.isp - 4) .l = s.psw.toWord
  savedPc : t.peek (s.isp - 8) .l = savedPc
  pc : t.pc = t.peek vec .l
  memory : SameMemoryBut (s.isp - 8) 8 s t
  waiting : t.waiting = false
  regs : t.regs = s.regs
  usp : t.usp = s.usp
  intb : t.intb = s.intb
  bpc : t.bpc = s.bpc
  bpsw : t.bpsw = s.bpsw
  fintv : t.fintv = s.fintv
  fpsw : t.fpsw = s.fpsw
  acc : t.acc = s.acc
  nmiPending : t.nmiPending = s.nmiPending
  product : t.product = s.product
  inputs : t.inputs = s.inputs
  ack : t.ack = s.ack

/-- The outcome is the entry; where an access of the entry itself faults the machine is stuck (R607; the spec's
decision D14, S1, log entry 12). -/
def EntersAt (o : Out) (vec : Word) (ipl : BitVec 4) (savedPc : Word) (s : State) : Prop :=
  (s.CanEnter vec → Reaches o (Entered vec ipl savedPc s)) ∧ (¬s.CanEnter vec → o = .fault .stuckEntry)

/-- The instruction is cancelled with an access exception (R612). -/
def AccessException (i : Instr) (s : State) : Prop := EntersAt (exec i s) 0xFFFFFFD4 s.psw.ipl s.pc s

/-- The instruction is cancelled with an undefined-instruction exception (R611). -/
def UndefinedException (i : Instr) (s : State) : Prop := EntersAt (exec i s) 0xFFFFFFDC s.psw.ipl s.pc s

/-- This step samples neither a reset nor an NMI nor an acceptable request. -/
structure State.Undisturbed (s : State) : Prop where
  reset : s.input.reset = false
  nmi : s.sample.nmiPending = false
  request : s.sample.accepted s.input = none

/-! ### Floating point -/

/-- A normalized number (R320). -/
abbrev IsNormal (v : Word) : Prop := 1 ≤ fpExponent v ∧ fpExponent v ≤ 254

/-- The value of a normalized number (R320). -/
def fpValue (v : Word) : ℚ :=
  (if v.msb then -1 else 1) * (significand v : ℚ) * 2 ^ ((fpExponent v : Int) - 150)

/-- r is the normalized number to which x rounds in the mode, among all normalized numbers (R41, R323). -/
def RoundsTo (rm : BitVec 2) (x : ℚ) (r : Word) : Prop :=
  IsNormal r ∧
  (rm = 0 → ∀ w, IsNormal w → |fpValue r - x| ≤ |fpValue w - x| ∧
    (w ≠ r → |fpValue r - x| = |fpValue w - x| → r.getLsbD 0 = false)) ∧
  (rm = 1 → 0 < fpValue r * x ∧ |fpValue r| ≤ |x| ∧ ∀ w, IsNormal w → |fpValue w| ≤ |x| → |fpValue w| ≤ |fpValue r|) ∧
  (rm = 2 → x ≤ fpValue r ∧ ∀ w, IsNormal w → x ≤ fpValue w → fpValue r ≤ fpValue w) ∧
  (rm = 3 → fpValue r ≤ x ∧ ∀ w, IsNormal w → fpValue w ≤ x → fpValue w ≤ fpValue r)

/-- x rounds beyond the largest finite number in the mode (R324, R328). -/
def Overflows (rm : BitVec 2) (x : ℚ) : Prop :=
  (rm = 0 ∧ 2 ^ 128 - 2 ^ 103 ≤ |x|) ∨ (rm = 1 ∧ 2 ^ 128 ≤ |x|) ∨
  (rm = 2 ∧ (2 ^ 128 - 2 ^ 104 < x ∨ x ≤ -2 ^ 128)) ∨ (rm = 3 ∧ (2 ^ 128 ≤ x ∨ x < -(2 ^ 128 - 2 ^ 104)))

/-- The result and events of the nonzero exact value x (R323, R324, R328 to R330). -/
def IsFpResult (f : Fpsw) (x : ℚ) (p : Word × Events) : Prop :=
  (|x| < 2 ^ (-126 : Int) → p = (signedZero (decide (x < 0)), { u := true, e := !f.dn })) ∧
  (2 ^ (-126 : Int) ≤ |x| → Overflows f.rm x →
    p = (overflowResult f.rm (decide (x < 0)), { o := true, x := !f.eo })) ∧
  (2 ^ (-126 : Int) ≤ |x| → ¬Overflows f.rm x →
    RoundsTo f.rm x p.1 ∧ p.2 = { x := decide (fpValue p.1 ≠ x) })

/-- What an instruction's events leave of the FPSW: the cause flags are the events, a sticky flag is set by an event
whose enable bit is 0, the rest is kept (R42, R44, R325). -/
structure Recorded (e : Events) (f g : Fpsw) : Prop where
  cause : g.cv = e.v ∧ g.co = e.o ∧ g.cz = e.z ∧ g.cu = e.u ∧ g.cx = e.x ∧ g.ce = e.e
  fv : g.fv = true ↔ f.fv = true ∨ (e.v = true ∧ f.ev = false)
  fo : g.fo = true ↔ f.fo = true ∨ (e.o = true ∧ f.eo = false)
  fz : g.fz = true ↔ f.fz = true ∨ (e.z = true ∧ f.ez = false)
  fu : g.fu = true ↔ f.fu = true ∨ (e.u = true ∧ f.eu = false)
  fx : g.fx = true ↔ f.fx = true ∨ (e.x = true ∧ f.ex = false)
  enables : g.ev = f.ev ∧ g.eo = f.eo ∧ g.ez = f.ez ∧ g.eu = f.eu ∧ g.ex = f.ex
  modes : g.rm = f.rm ∧ g.dn = f.dn

/-- The events trap: unimplemented processing always, the others where enabled (R325, R331). -/
abbrev FpTraps (f : Fpsw) (e : Events) : Prop :=
  e.e = true ∨ (e.v = true ∧ f.ev = true) ∨ (e.o = true ∧ f.eo = true) ∨ (e.z = true ∧ f.ez = true) ∨
    (e.u = true ∧ f.eu = true) ∨ (e.x = true ∧ f.ex = true)

/-- n bytes further, rd, Z, S and the FPSW are those of the result and its events (R325, R335). -/
structure FpWrote (rd : Reg) (r : Word × Events) (z : Bool) (n : Nat) (s t : State) : Prop where
  value : t.reg rd = r.1
  zero : t.psw.z = z
  sign : t.psw.s = r.1.msb
  fpsw : Recorded r.2 s.fpsw t.fpsw
  pc : t.pc = s.after n
  frame : FrameFp [rd] [.z, .s] s t

/-- The outcome is the floating-point exception: only FPSW, and where `accFree` says so ACC, differ from the state
the instruction began with (R325, R333, R338). -/
def FpException (i : Instr) (e : Events) (accFree : Bool) (s : State) : Prop :=
  ∃ f acc k, Recorded e s.fpsw f ∧ (accFree = false → acc = s.acc) ∧
    EntersAt (exec i s) 0xFFFFFFE4 s.psw.ipl s.pc { s with fpsw := f, acc := acc, fresh := k }

/-- The instruction completes with the result where its events do not trap, and takes the floating-point exception
where they do (R325, R333). -/
def FpRuns (i : Instr) (rd : Reg) (r : Word × Events) (z accFree : Bool) (n : Nat) (s : State) : Prop :=
  (¬FpTraps s.fpsw r.2 → Completes i s fun t => FpWrote rd r z n s t ∧ (accFree = false → t.acc = s.acc)) ∧
  (FpTraps s.fpsw r.2 → FpException i r.2 accFree s)

/-- As `FpRuns` for FCMP: O, S, Z are those of the relation and no register is written (R336). -/
def FcmpRuns (i : Instr) (r : FpOrder × Events) (n : Nat) (s : State) : Prop :=
  (¬FpTraps s.fpsw r.2 → Completes i s fun t =>
    (t.psw.o = true ↔ r.1 = .unordered) ∧ (t.psw.s = true ↔ r.1 = .less) ∧ (t.psw.z = true ↔ r.1 = .equal) ∧
      Recorded r.2 s.fpsw t.fpsw ∧ t.pc = s.after n ∧ t.acc = s.acc ∧ FrameFp [] [.o, .s, .z] s t) ∧
  (FpTraps s.fpsw r.2 → FpException i r.2 false s)

/-- The integer to which x rounds in the mode (R340, R342). -/
def RoundsToInt (rm : BitVec 2) (x : ℚ) (n : Int) : Prop :=
  (rm = 0 → |(n : ℚ) - x| ≤ 1 / 2 ∧ (|(n : ℚ) - x| = 1 / 2 → n % 2 = 0)) ∧
  (rm = 1 → 0 ≤ (n : ℚ) * x ∧ |(n : ℚ)| ≤ |x| ∧ |x| < |(n : ℚ)| + 1) ∧
  (rm = 2 → (n : ℚ) - 1 < x ∧ x ≤ n) ∧
  (rm = 3 → (n : ℚ) ≤ x ∧ x < n + 1)

/-- The value of a zero or a normalized number. -/
def fpReal (v : Word) : ℚ := if isZero v then 0 else fpValue v

/-! ### Runs -/

/-- n steps, stopping early at a fault or a refusal. -/
def run : Nat → State → Out
  | 0, s => .next s
  | n + 1, s =>
    match step s with
    | .next t => run n t
    | .fault f => .fault f
    | .refused r => .refused r

/-- The state runs the two bytes at its PC undisturbed: no input is queued, nothing is pending, no protection unit is
present. -/
abbrev State.RunsAlone (s : State) (b0 b1 : Byte) : Prop :=
  s.product.hasMpu = false ∧ s.inputs = [] ∧ s.nmiPending = false ∧ s.waiting = false ∧
    Memory.wf s.mem = true ∧ s.byteAt s.pc = b0 ∧ s.byteAt (s.pc + 1) = b1

/-! ### Code -/

/-- The n bytes from the PC on. -/
def State.codeBytes (s : State) (n : Nat) : List Byte := (List.range n).map fun k => s.byteAt (s.after k)

end Sys2Proof.Machine
end

