-- ==== Sys2Proof/Certificates/Slice0/Obligations.lean ====
section
/-! DEFINITION. The statements for the provers, each named by what it states. -/

open Sys2Proof Sys2Proof.Machine

/-! ### Encoding and decoding -/

/-- Every well-formed instruction the product has is read back from its own bytes, whatever follows them. -/
def Obligations.DecodeInvertsEncode : Prop :=
  ∀ (p : Product) (i : Instr) (rest : List Byte), i.wellFormed = true → i.installed p = true →
    decode p (encode i ++ rest) = .instr i rest

/-- Whatever the decoder reads is a well-formed instruction the product has, and the bytes read are its encoding: no
bit of an instruction is ignored. -/
def Obligations.DecodeReadsOnlyEncodings : Prop :=
  ∀ (p : Product) (bytes rest : List Byte) (i : Instr), decode p bytes = .instr i rest →
    i.wellFormed = true ∧ i.installed p = true ∧ encode i ++ rest = bytes

/-- The reserved field values of R171 and R124 (E1 to E10), and every other sequence of opcode bytes that matches no row
of the opcode table (E11), decode to no instruction, on every product: that they are undefined instructions is the
spec's decision D7 (log entry 20). Which bytes the rows marked GK take is PRESUMED by the spec (log entry 16). -/
def Obligations.ReservedPatternsAreUndefined : Prop :=
  ∀ (p : Product) (z l m : BitVec 2) (a b c : BitVec 4) (x : BitVec 1) (y : BitVec 3) (w : BitVec 5) (o : BitVec 6)
    (v : Byte),
    -- first bytes of no instruction
    Rejects p [0x01] ∧ Rejects p [0x07] ∧ Rejects p [0b00110#5 ++ y] ∧
    -- cd of BCnd.B, SCCnd, BMCnd
    Rejects p [0x2F] ∧ Rejects p [0xFC, 0b1101#4 ++ z ++ l, a ++ 0b111#3 ++ x] ∧
    Rejects p [0xFC, 0b111#3 ++ y ++ l, a ++ 0b1110#4] ∧ Rejects p [0xFD, 0b111#3 ++ w, 0b1110#4 ++ a] ∧
    -- cr of MVFC, MVTC, PUSHC, POPC
    ((4 ≤ c.toNat ∧ c.toNat ≤ 7) ∨ 13 ≤ c.toNat →
      Rejects p [0xFD, 0x6A, c ++ a] ∧ Rejects p [0x7E, 0b1100#4 ++ c]) ∧
    (c.toNat = 1 ∨ (4 ≤ c.toNat ∧ c.toNat ≤ 7) ∨ 13 ≤ c.toNat →
      Rejects p [0xFD, 0x68, a ++ c] ∧ Rejects p [0xFD, 0b0111#4 ++ l ++ 0b11#2, 0b0000#4 ++ c] ∧
      Rejects p [0x7E, 0b1110#4 ++ c]) ∧
    -- cb of SETPSW, CLRPSW
    ((4 ≤ c.toNat ∧ c.toNat ≤ 7) ∨ 10 ≤ c.toNat →
      Rejects p [0x7F, 0b1010#4 ++ c] ∧ Rejects p [0x7F, 0b1011#4 ++ c]) ∧
    -- sz = 11b
    Rejects p [0b111101#6 ++ l, a ++ 0b1011#4] ∧ Rejects p [0b111110#6 ++ l, a ++ z ++ 0b11#2] ∧
    Rejects p [0xFC, 0b110111#6 ++ l, a ++ b] ∧ Rejects p [0xFE, 0b0011#4 ++ a] ∧ Rejects p [0xFE, 0b0111#4 ++ a] ∧
    Rejects p [0xFD, 0b0010#4 ++ z ++ 0b11#2] ∧
    -- ld = 11b where the operand is memory
    Rejects p [0xF3, a ++ b] ∧ Rejects p [0xF7, a ++ b] ∧ Rejects p [0x06, m ++ b ++ 0b11#2] ∧
    Rejects p [0xFC, 0b111#3 ++ y ++ 0b11#2, a ++ b] ∧ (z ≠ 2 → Rejects p [0xFB, a ++ m ++ z]) ∧
    -- the pairs of sz and li that MOV of an immediate to memory has not
    (m ≠ 1 → Rejects p [0b111110#6 ++ l, a ++ m ++ 0b00#2]) ∧
    (m = 0 ∨ m = 3 → Rejects p [0b111110#6 ++ l, a ++ m ++ 0b01#2]) ∧
    -- mi of ADC and SBB
    (m ≠ 2 → Rejects p [0x06, m ++ 0b1000#4 ++ l, 0x00] ∧ Rejects p [0x06, m ++ 0b1000#4 ++ l, 0x02]) ∧
    -- register numbers
    Rejects p [0xFD, 0b0111#4 ++ l ++ 0b00#2, 0b011#3 ++ x ++ 0b1111#4] ∧
    Rejects p [0xFC, 0b00011#5 ++ x ++ l, a ++ 0b1111#4] ∧
    Rejects p [0x06, m ++ 0b1000#4 ++ l, 0b0000011#7 ++ x, a ++ 0b1111#4] ∧
    (a.toNat = 0 ∨ a.toNat = 15 ∨ b.toNat = 0 ∨ b.toNat = 1 → Rejects p [0x6E, a ++ b] ∧ Rejects p [0x6F, a ++ b]) ∧
    (a.toNat = 0 ∨ b.toNat = 0 → Rejects p [0x3F, a ++ b]) ∧
    -- SCCnd of a register is .L only
    (z ≠ 2 → Rejects p [0xFC, 0b1101#4 ++ z ++ 0b11#2, a ++ b]) ∧
    -- bits that are fixed
    (a ≠ 0 → Rejects p [0x75, 0x70, a ++ b] ∧ Rejects p [0x75, 0b0111#4 ++ a] ∧ Rejects p [0x75, 0b0110#4 ++ a] ∧
      Rejects p [0xFD, 0x18, b ++ a] ∧ Rejects p [0xFD, 0b0111#4 ++ l ++ 0b11#2, a ++ b]) ∧
    (y ≠ 0 → Rejects p [0xFD, 0x18, y ++ x ++ a]) ∧
    (2 ≤ a.toNat → Rejects p [0xFD, 0x17, a ++ b]) ∧ (a ≠ 0 → a ≠ 2 → Rejects p [0xFD, 0x1F, a ++ b]) ∧
    (5 ≤ a.toNat → Rejects p [0xFD, 0x72, a ++ b]) ∧
    (a ∈ [0, 1, 3, 10, 11] → Rejects p [0xFD, 0b0111#4 ++ l ++ 0b00#2, a ++ b]) ∧
    Rejects p [0b111101#6 ++ l, a ++ 0b11#2 ++ z] ∧
    -- every other second byte
    (c.toNat = 6 ∨ c.toNat = 7 ∨ 9 ≤ c.toNat → Rejects p [0x06, m ++ c ++ l]) ∧
    (4 ≤ a.toNat → Rejects p [0x74, a ++ b] ∧ Rejects p [0x76, a ++ b] ∧ Rejects p [0x77, a ++ b]) ∧
    (8 ≤ a.toNat → Rejects p [0x75, a ++ b]) ∧
    (a ∈ [6, 7, 13, 15] → Rejects p [0x7E, a ++ b]) ∧
    (a ∈ [2, 3, 6, 7] ∨ 12 ≤ a.toNat → Rejects p [0x7F, a ++ b]) ∧
    (b.toNat ≤ 2 ∨ 7 ≤ b.toNat → Rejects p [0x7F, 0b1001#4 ++ b]) ∧
    (o.toNat ≤ 3 ∨ o.toNat = 14 → l ≠ 3 → Rejects p [0xFC, o ++ l]) ∧
    (o ∈ [10, 11, 15] ∨ (18 ≤ o.toNat ∧ o.toNat ≤ 23) ∨ (28 ≤ o.toNat ∧ o.toNat ≤ 31) ∨
      (39 ≤ o.toNat ∧ o.toNat ≤ 51) → Rejects p [0xFC, o ++ l]) ∧
    (v ∈ [0x02, 0x03, 0x3A, 0x3B, 0x63, 0x69, 0x6B, 0x71, 0x75, 0x76, 0x79, 0x7A, 0x7D, 0x7E] ∨
      (0x06 ≤ v.toNat ∧ v.toNat ≤ 0x16) ∨ (0x19 ≤ v.toNat ∧ v.toNat ≤ 0x1E) ∨ (0x30 ≤ v.toNat ∧ v.toNat ≤ 0x37) ∨
      (0x3E ≤ v.toNat ∧ v.toNat ≤ 0x5F) → Rejects p [0xFD, v]) ∧
    ((8 ≤ a.toNat ∧ a.toNat ≤ 11) ∨ 14 ≤ a.toNat → Rejects p [0xFE, a ++ b]) ∧
    (a.toNat = 1 ∨ 6 ≤ a.toNat → Rejects p [0xFF, a ++ b]) ∧
    -- every other third byte of the page 06
    (v ∈ [0x01, 0x03, 0x0A, 0x0B, 0x0E, 0x0F] ∨ 0x12 ≤ v.toNat → Rejects p [0x06, m ++ 0b1000#4 ++ l, v])

/-- Words of the spec's own examples, one or more for each family of the opcode table (arithmetic and logic, floating
point, transfer, branch, bit, string, system, DSP), decode to their instructions. The fixed bits of the words of rows
marked GK (FF 23 12 among them) and some digits of S* rows are PRESUMED by the spec (log entry 16), and so is the order
of the bytes of a displacement or an immediate, least significant first (04 56 34 12; D2 and G3, log entry 17). -/
def Obligations.ExampleWordsDecode : Prop :=
  decode Product.default [0x62, 0xF2] = .instr (.addUimm4 15 2) [] ∧
  decode Product.default [0xFF, 0x23, 0x12] = .instr (.addRRR 1 2 3) [] ∧
  decode Product.default [0x06, 0x95, 0x12, 0x02] = .instr (.orMx .l 1 (.d8 2) 2) [] ∧
  decode Product.default [0xFD, 0x83, 0x12] = .instr (.shlrImm3 3 1 2) [] ∧
  decode Product.default [0xFC, 0x8B, 0x12] = .instr (.faddRm (.reg 1) 2) [] ∧
  decode Product.default [0xFE, 0x51, 0x23] = .instr (.movLoadIdx .w 1 2 3) [] ∧
  decode Product.default [0xB8, 0x1A] = .instr (.movuLoadD5 .w 1 1 2) [] ∧
  decode Product.default [0x6E, 0x13] = .instr (.pushm 1 3) [] ∧
  decode Product.default [0x04, 0x56, 0x34, 0x12] = .instr (.braA 0x123456) [] ∧
  decode Product.default [0x3F, 0x57, 0x04] = .instr (.rtsdRange 4 5 7) [] ∧
  decode Product.default [0x79, 0xF2] = .instr (.bsetImm 31 2) [] ∧
  decode Product.default [0xFD, 0xFF, 0x02] = .instr (.bmcndR .eq 31 2) [] ∧
  decode Product.default [0x7F, 0x89] = .instr (.sstr .w) [] ∧
  decode Product.default [0xFD, 0x7B, 0x0C, 0x00, 0xFF] = .instr (.mvtcImm (.s16 0xFF00) .intb) [] ∧
  decode Product.default [0x75, 0x60, 0xFF] = .instr (.int 255) [] ∧
  decode Product.default [0xFD, 0x18, 0x10] = .instr (.racw 1) []

/-! ### Steps, reset and inputs -/

/-- A step that nothing disturbs runs the instruction at the PC on the sampled state; sampling changes only the
queue of inputs, the NMI latch and the acknowledgement (R608; the queue is the model's, log entry 7). -/
def Obligations.StepRunsDecodedInstruction : Prop :=
  ∀ (s : State) (i : Instr) (n : Nat), s.Undisturbed → s.waiting = false → n ≤ 8 →
    decode s.product (s.codeBytes n) = .instr i [] → (∀ k < n, s.faultAt (s.after k) 1 .fetch = false) →
    step s = exec i s.sample ∧
      s.sample = { s with inputs := s.inputs.tail, nmiPending := s.nmiPending || s.input.nmi, ack := none }

/-- Every step keeps a state legal (canonical memory, IPL in the product's width, the user stack in user mode) and
never changes the product. -/
def Obligations.StepKeepsLegalStates : Prop :=
  ∀ s t : State, s.Legal → step s = .next t → t.Legal ∧ t.product = s.product

/-- The state after reset is legal. -/
def Obligations.ResetStateIsLegal : Prop := State.reset.Legal

/-- Reset goes before everything else, initialises the control registers, and takes the PC from FFFFFFFCh (R670, R671);
where that read faults the machine is stuck (S2). PSW, ISP and USP are the spec's decision D4, no pending NMI its D12
(log entries 7 and 34), stuck its D14 (log entry 12). That memory is kept is DEDUCED (log entry 10), and that no RMPA is
under way is the model's mark (log entry 14). -/
def Obligations.ResetInitialisesTheMachine : Prop :=
  ∀ s : State, s.input.reset = true →
    (s.product.memFault 0xFFFFFFFC 4 .read false = false → Reaches (step s) fun t =>
      t.psw.toWord = 0 ∧ t.fpsw.toWord = 0x100 ∧ t.isp = 0 ∧ t.usp = 0 ∧ t.waiting = false ∧ t.nmiPending = false ∧
      t.pc = s.peek 0xFFFFFFFC .l ∧ t.reg 0 = t.isp ∧ t.product = s.product ∧ t.rmpa = RmpaProgress.idle ∧
      SameMemory s t) ∧
    (s.product.memFault 0xFFFFFFFC 4 .read false = true → step s = .fault .stuckReset)

/-- A pending NMI is taken before a request, the wait and the next instruction, whatever I and IPL are (R608, R614);
IPL becomes 15, or 7 with the narrow IPL. An acceptable request is acknowledged and entered through the relocatable
table, its level becoming IPL; from the fast source it saves PSW and PC in BPSW and BPC, goes to FINTV and touches no
memory (R608, R615, R622). The queue of inputs, the fast source's level and the levels of a narrow IPL are the model's
(log entries 7 and 8), and so is the suspending of an RMPA under way (log entry 14); that a fault inside the entry is
stuck is the spec's decision D14 (log entry 12). -/
def Obligations.AcceptableInputsAreEntered : Prop :=
  ∀ s : State, Memory.wf s.mem = true → s.input.reset = false →
    (s.nmiPending = true ∨ s.input.nmi = true →
      EntersAt (step s) 0xFFFFFFF8 (if s.product.ipl3 then 7 else 15) s.pc { s.sample with nmiPending := false }) ∧
    (s.nmiPending = false → s.input.nmi = false → s.psw.i = true → ∀ irq, s.input.request = some irq →
      (∀ level, level = maskLevel s.product.ipl3 irq.level → s.input.fastSource ≠ some irq.source →
        s.psw.ipl < level →
          EntersAt (step s) (s.intb + 4 * irq.vector.setWidth 32) level s.pc { s.sample with ack := some irq }) ∧
      (s.input.fastSource = some irq.source → s.psw.ipl.toNat < (if s.product.ipl3 then 7 else 15) →
        Reaches (step s) fun t =>
          t.bpsw = s.psw ∧ t.bpc = s.pc ∧ t.pc = s.fintv ∧ t.waiting = false ∧ t.ack = some irq ∧
          t.psw = { s.psw with i := false, u := false, pm := false, ipl := if s.product.ipl3 then 7 else 15 } ∧
          t.mem = s.mem ∧ t.regs = s.regs ∧ t.isp = s.isp ∧ t.usp = s.usp ∧ t.intb = s.intb ∧ t.fintv = s.fintv ∧
          t.fpsw = s.fpsw ∧ t.acc = s.acc ∧ t.product = s.product ∧ t.rmpa = s.rmpa.suspend s.pc))

/-- WAIT in supervisor mode sets I, goes on to the next address and stops execution (R556). A request is not accepted
with I = 0 or a level not above IPL; the machine then goes on waiting or runs the instruction at the PC (R608, R621; the
spec's decision D13, log entry 27). The queue of inputs, and which level of the fast source or of a narrow IPL is
compared, are the model's (log entries 7 and 8); the mark of an RMPA under way is the model's (log entry 14). -/
def Obligations.WaitingEndsOnlyByInputs : Prop :=
  (∀ s : State, s.psw.pm = false → Completes .wait s fun t =>
    t.waiting = true ∧ t.psw = { s.psw with i := true } ∧ t.pc = s.after 2 ∧ t.regs = s.regs ∧ t.isp = s.isp ∧
    t.usp = s.usp ∧ t.fpsw = s.fpsw ∧ t.acc = s.acc ∧ t.intb = s.intb ∧ t.bpc = s.bpc ∧ t.bpsw = s.bpsw ∧
    t.fintv = s.fintv ∧ t.product = s.product ∧ t.nmiPending = s.nmiPending ∧ t.inputs = s.inputs ∧ t.ack = s.ack ∧
    t.rmpa = s.rmpa ∧ SameMemory s t) ∧
  ∀ s : State, s.input.reset = false → s.sample.nmiPending = false →
    (∀ irq, s.input.request = some irq → s.psw.i = false ∨
      (s.input.fastSource ≠ some irq.source ∧ (maskLevel s.product.ipl3 irq.level).toNat ≤ s.psw.ipl.toNat) ∨
      (s.input.fastSource = some irq.source ∧ (if s.product.ipl3 then 7 else 15) ≤ s.psw.ipl.toNat)) →
    (s.waiting = true → step s = .next s.sample) ∧ (s.waiting = false → step s = s.sample.runInstr)

/-! ### Taking exceptions and returning -/

/-- Exception entry clears I, U and PM, saves the old PSW, sets IPL for the NMI and for interrupts only, and keeps C,
Z, S, O (R36): for every kind, on the stack or, for the fast interrupt, in BPSW. With the narrow IPL, the NMI's 7 and
the low three bits of a level are the model's (log entry 8). -/
def Obligations.EntryWritesThePsw : Prop :=
  ∀ (s : State) (savedPc : Word) (e : Exc) (level : BitVec 4), Memory.wf s.mem = true →
    (∀ t, s.enter e savedPc = .next t →
      t.peek (s.isp - 4) .l = s.psw.toWord ∧ t.psw.i = false ∧ t.psw.u = false ∧ t.psw.pm = false ∧
      t.psw.c = s.psw.c ∧ t.psw.z = s.psw.z ∧ t.psw.s = s.psw.s ∧ t.psw.o = s.psw.o ∧
      (e = .nmi → t.psw.ipl = if s.product.ipl3 then 7 else 15) ∧
      (∀ n l, e = .interrupt n l → t.psw.ipl = maskLevel s.product.ipl3 l) ∧
      (e ≠ .nmi → (∀ n l, e ≠ .interrupt n l) → t.psw.ipl = s.psw.ipl)) ∧
    (s.enterFast level).bpsw = s.psw ∧ (s.enterFast level).psw =
      { s.psw with i := false, u := false, pm := false, ipl := maskLevel s.product.ipl3 level }

/-- Each kind of exception takes its handler's address from its own vector, read after the pushes (log entry 11); INT
and BRK trap in both modes, with the address of the next instruction saved and IPL kept (R92, R546, R547, R605, R607,
R623). An interrupt's IPL with the narrow IPL, and the NMI's 7 there, are the model's (log entry 8); that a fault inside
the entry is stuck is the spec's decision D14 (S1, log entry 12), and an RMPA under way is marked suspended (log entry
14). -/
def Obligations.EntryFollowsTheVectorTable : Prop :=
  ∀ (s : State) (savedPc : Word) (n : BitVec 8) (level : BitVec 4), Memory.wf s.mem = true →
    EntersAt (s.enter .privileged savedPc) 0xFFFFFFD0 s.psw.ipl savedPc s ∧
    EntersAt (s.enter .access savedPc) 0xFFFFFFD4 s.psw.ipl savedPc s ∧
    EntersAt (s.enter .undefined savedPc) 0xFFFFFFDC s.psw.ipl savedPc s ∧
    EntersAt (s.enter .floating savedPc) 0xFFFFFFE4 s.psw.ipl savedPc s ∧
    EntersAt (s.enter .nmi savedPc) 0xFFFFFFF8 (if s.product.ipl3 then 7 else 15) savedPc s ∧
    EntersAt (s.enter (.trap n) savedPc) (s.intb + 4 * n.setWidth 32) s.psw.ipl savedPc s ∧
    EntersAt (s.enter (.interrupt n level) savedPc) (s.intb + 4 * n.setWidth 32)
      (maskLevel s.product.ipl3 level) savedPc s ∧
    EntersAt (exec .brk s) s.intb s.psw.ipl (s.pc + 1) s ∧
    EntersAt (exec (.int n) s) (s.intb + 4 * n.setWidth 32) s.psw.ipl (s.pc + 3) s

/-- In user mode the four privileged instructions take the privileged-instruction exception and do nothing else (R530,
R607, R610). That a fault inside the entry is stuck is the spec's decision D14 (S1, log entry 12); the mark of an RMPA
under way is the model's (log entry 14). -/
def Obligations.PrivilegedInstructionsTrapInUserMode : Prop :=
  ∀ s : State, Memory.wf s.mem = true → s.psw.pm = true →
    (∀ i ∈ [Instr.rte, .rtfi, .wait], EntersAt (exec i s) 0xFFFFFFD0 s.psw.ipl s.pc s) ∧
    ∀ imm : BitVec 4, s.product.hasMvtipl = true → EntersAt (exec (.mvtipl imm) s) 0xFFFFFFD0 s.psw.ipl s.pc s

/-- The instructions a product lacks are undefined instructions, to the decoder and to exec (R47, R544; the spec's
decisions D6 and D20, log entry 21; a fault inside the entry is stuck, D14, log entry 12; the mark of an RMPA under way
is the model's, log entry 14). -/
def Obligations.AbsentInstructionsAreUndefined : Prop :=
  (∀ (p : Product) (i : Instr) (rest : List Byte), i.wellFormed = true → i.installed p = false →
    ∃ why, decode p (encode i ++ rest) = .undefined why) ∧
  ∀ s : State, Memory.wf s.mem = true →
    (s.product.hasFpu = false → ∀ i : Instr, i.needsFpu = true → UndefinedException i s) ∧
    (s.product.hasMvtipl = false → ∀ imm, UndefinedException (.mvtipl imm) s)

/-- Bytes that are no instruction take the undefined-instruction exception; a byte the decoder needs and may not fetch
takes the access exception instead (R606, R611, R612; the spec's decision D7, log entry 20; a fault inside the entry is
stuck, D14, log entry 12; the mark of an RMPA under way is the model's, log entry 14). -/
def Obligations.BadFetchesTakeTheirException : Prop :=
  ∀ (s : State) (n : Nat), Memory.wf s.mem = true → s.Undisturbed → s.waiting = false → n ≤ 8 →
    (∀ k < n, s.faultAt (s.after k) 1 .fetch = false) →
    (∀ why, decode s.product (s.codeBytes n) = .undefined why →
      EntersAt (step s) 0xFFFFFFDC s.psw.ipl s.pc s.sample) ∧
    (decode s.product (s.codeBytes n) = .short → s.faultAt (s.after n) 1 .fetch = true →
      EntersAt (step s) 0xFFFFFFD4 s.psw.ipl s.pc s.sample)

/-- A data access that faults cancels the instruction with the access exception, nothing else done (R380, R604, R612;
that all accesses are checked before any counts is the spec's decision D18, log entry 31; a fault inside the entry is
stuck, D14, log entry 12; the mark of an RMPA under way is the model's, log entry 14). -/
def Obligations.FaultingAccessesCancelTheInstruction : Prop :=
  ∀ (s : State) (r r' rd : Reg) (low low' : LowReg) (d d' : Dsp) (d5 : BitVec 5) (sz : Size) (msz : MovuSize)
    (mx : Memex) (k : Nat) (imm : Simm) (imm3 : BitVec 3) (imm8 : BitVec 8) (d16 : BitVec 16) (d24 : BitVec 24)
    (cd : Cond) (cr : CReg) (mode : Auto),
    Memory.wf s.mem = true →
    (s.faultAt (s.ea r d .b) 1 .read = true →
      (∀ i ∈ [Instr.addRm (.mem r d) rd, .andRm (.mem r d) rd, .cmpRm (.mem r d) rd, .divRm (.mem r d) rd,
          .divuRm (.mem r d) rd, .emulRm (.mem r d) rd, .emuluRm (.mem r d) rd, .maxRm (.mem r d) rd,
          .minRm (.mem r d) rd, .mulRm (.mem r d) rd, .orRm (.mem r d) rd, .subRm (.mem r d) rd,
          .tstRm (.mem r d) rd, .xorRm (.mem r d) rd, .xchgRm (.mem r d) rd, .bclrImmMem imm3 r d,
          .bclrRMem rd r d, .bsetImmMem imm3 r d, .bsetRMem rd r d, .btstImmMem imm3 r d, .btstRMem rd r d,
          .bmcndMem cd imm3 r d, .bnotImmMem imm3 r d, .bnotRMem rd r d], AccessException i s) ∧
      (s.product.hasFpu = true → AccessException (.itofRm (.mem r d) rd) s)) ∧
    (s.faultAt (s.ea r d .b) 1 .write = true →
      ∀ i ∈ [Instr.xchgRm (.mem r d) rd, .bclrImmMem imm3 r d, .bclrRMem rd r d, .bsetImmMem imm3 r d,
        .bsetRMem rd r d, .bmcndMem cd imm3 r d, .bnotImmMem imm3 r d, .bnotRMem rd r d], AccessException i s) ∧
    (s.faultAt (s.ea r d mx.size) mx.size.bytes .read = true →
      (∀ i ∈ [Instr.addMx mx r d rd, .andMx mx r d rd, .cmpMx mx r d rd, .divMx mx r d rd, .divuMx mx r d rd,
          .emulMx mx r d rd, .emuluMx mx r d rd, .maxMx mx r d rd, .minMx mx r d rd, .mulMx mx r d rd,
          .orMx mx r d rd, .subMx mx r d rd, .tstMx mx r d rd, .xorMx mx r d rd, .xchgMx mx r d rd],
        AccessException i s) ∧
      (s.product.hasFpu = true → AccessException (.itofMx mx r d rd) s)) ∧
    (s.faultAt (s.ea r d mx.size) mx.size.bytes .write = true → AccessException (.xchgMx mx r d rd) s) ∧
    (s.faultAt (s.ea r d .l) 4 .read = true →
      (∀ i ∈ [Instr.adcMem r d rd, .sbbMem r d rd], AccessException i s) ∧
      (s.product.hasFpu = true → ∀ i ∈ [Instr.faddRm (.mem r d) rd, .fcmpRm (.mem r d) rd, .fdivRm (.mem r d) rd,
        .fmulRm (.mem r d) rd, .fsubRm (.mem r d) rd, .ftoiRm (.mem r d) rd, .roundRm (.mem r d) rd],
        AccessException i s)) ∧
    (s.faultAt (s.ea r d sz) sz.bytes .read = true →
      ∀ i ∈ [Instr.movLoad sz r d rd, .movMemMem sz r d rd d', .pushMem sz r d], AccessException i s) ∧
    (s.faultAt (s.ea r d msz.size) msz.size.bytes .read = true → AccessException (.movuRm msz (.mem r d) rd) s) ∧
    (s.faultAt (s.eaShort low d5 sz) sz.bytes .read = true → AccessException (.movLoadD5 sz d5 low low') s) ∧
    (s.faultAt (s.eaShort low d5 msz.size) msz.size.bytes .read = true →
      AccessException (.movuLoadD5 msz d5 low low') s) ∧
    (s.faultAt (s.eaIndexed r r' sz) sz.bytes .read = true → AccessException (.movLoadIdx sz r r' rd) s) ∧
    (s.faultAt (s.eaIndexed r r' msz.size) msz.size.bytes .read = true →
      AccessException (.movuLoadIdx msz r r' rd) s) ∧
    (s.faultAt (s.eaAuto mode r sz) sz.bytes .read = true → AccessException (.movLoadAuto mode sz r rd) s) ∧
    (s.faultAt (s.eaAuto mode r msz.size) msz.size.bytes .read = true →
      AccessException (.movuLoadAuto mode msz r rd) s) ∧
    (s.faultAt (s.ea r d sz) sz.bytes .write = true →
      ∀ i ∈ [Instr.movStore sz rd r d, .movImmMem sz imm r d, .sccnd cd sz (.mem r d)], AccessException i s) ∧
    (s.faultAt (s.ea rd d' sz) sz.bytes .write = true → AccessException (.movMemMem sz r d rd d') s) ∧
    (s.faultAt (s.eaShort low d5 sz) sz.bytes .write = true →
      AccessException (.movStoreD5 sz low' d5 low) s ∧ AccessException (.movImmD5 sz imm8 d5 low) s) ∧
    (s.faultAt (s.eaIndexed r r' sz) sz.bytes .write = true → AccessException (.movStoreIdx sz rd r r') s) ∧
    (s.faultAt (s.eaAuto mode r sz) sz.bytes .write = true → AccessException (.movStoreAuto mode sz rd r) s) ∧
    (s.faultAt (s.reg 0 - 4) 4 .write = true →
      ∀ i ∈ [Instr.pushR sz r, .pushMem sz r d, .pushc cr, .bsrW d16, .bsrA d24, .bsrL r, .jsr r],
        AccessException i s) ∧
    (r < r' → k ≤ r'.val - r.val →
      (s.faultAt (s.reg 0 + 4 * BitVec.ofNat 32 k) 4 .read = true → AccessException (.popm r r') s) ∧
      (s.faultAt (s.reg 0 - 4 * BitVec.ofNat 32 (k + 1)) 4 .write = true → AccessException (.pushm r r') s)) ∧
    (s.faultAt (s.reg 0 + 4 * imm8.setWidth 32) 4 .read = true → AccessException (.rtsd imm8) s) ∧
    (r ≤ r' → r'.val - r.val < imm8.toNat → k ≤ r'.val - r.val + 1 →
      s.faultAt (s.reg 0 + 4 * imm8.setWidth 32 - 4 * BitVec.ofNat 32 k) 4 .read = true →
      AccessException (.rtsdRange imm8 r r') s) ∧
    (s.faultAt (s.reg 0) 4 .read = true →
      ∀ i ∈ [Instr.pop r, .popc cr, .rts], AccessException i s) ∧
    (s.psw.pm = false → s.faultAt (s.reg 0) 4 .read = true ∨ s.faultAt (s.reg 0 + 4) 4 .read = true →
      AccessException .rte s) ∧
    (s.reg 3 ≠ 0 → s.faultAt (s.reg 1) sz.bytes .read = true →
      AccessException (.suntil sz) s ∧ AccessException (.swhile sz) s) ∧
    (s.reg 3 ≠ 0 → s.faultAt (s.reg 1) sz.bytes .write = true → AccessException (.sstr sz) s) ∧
    (s.reg 3 ≠ 0 → s.faultAt (s.reg 1) 1 .read = true ∨ s.faultAt (s.reg 2) 1 .read = true →
      AccessException .scmpu s) ∧
    (s.reg 3 ≠ 0 → s.faultAt (s.reg 2) 1 .read = true ∨ s.faultAt (s.reg 1) 1 .write = true →
      (overlaps (s.reg 1 - s.reg 2) (s.reg 3) = false → AccessException .smovf s ∧ AccessException .smovu s) ∧
      (overlaps (s.reg 2 - s.reg 1) (s.reg 3) = false → AccessException .smovb s)) ∧
    (s.reg 3 ≠ 0 → (s.rmpaUnderWay = true ∨ s.rmpaAdmits = true) →
      s.faultAt (s.reg 1) sz.bytes .read = true ∨ s.faultAt (s.reg 2) sz.bytes .read = true →
      AccessException (.rmpa sz) s)

/-- In supervisor mode RTE takes the PC and then the PSW from the stack selected before, and changes nothing else;
RTFI takes them from BPC and BPSW, whose values are free afterwards, and touches no memory (R550, R551). A return to
the address of a suspended RMPA marks it under way (the model's, log entry 14). -/
def Obligations.ReturnsReloadPcAndPsw : Prop :=
  ∀ s : State, s.psw.pm = false →
    (s.Readable (s.reg 0) 4 → s.Readable (s.reg 0 + 4) 4 → Completes .rte s fun t =>
      t.pc = s.peek (s.reg 0) .l ∧ t.psw = Psw.restore s.product.ipl3 (s.peek (s.reg 0 + 4) .l) ∧
      t.isp = (if s.psw.u then s.isp else s.isp + 8) ∧ t.usp = (if s.psw.u then s.usp + 8 else s.usp) ∧
      t.regs = s.regs ∧ t.fpsw = s.fpsw ∧ t.acc = s.acc ∧ t.rmpa = s.rmpa.resume t.pc ∧
      SameControl { s with rmpa := t.rmpa } t ∧ SameMemory s t) ∧
    Completes .rtfi s fun t =>
      t.pc = s.bpc ∧ t.psw = Psw.restore s.product.ipl3 s.bpsw.toWord ∧ t.bpsw.Fits s.product.ipl3 ∧
      t.isp = s.isp ∧ t.usp = s.usp ∧ t.regs = s.regs ∧ t.fpsw = s.fpsw ∧ t.acc = s.acc ∧ t.intb = s.intb ∧
      t.fintv = s.fintv ∧ t.waiting = s.waiting ∧ t.nmiPending = s.nmiPending ∧ t.product = s.product ∧
      t.inputs = s.inputs ∧ t.ack = s.ack ∧ t.rmpa = s.rmpa.resume s.bpc ∧ SameMemory s t

/-- A handler that returns at once, by RTE from an exception and by RTFI from a fast interrupt, brings back the PC,
the PSW, both stack pointers and every general register of the interrupted program. -/
def Obligations.ReturnUndoesEntry : Prop :=
  ∀ (s t : State) (savedPc : Word), s.Legal →
    (∀ e, s.enter e savedPc = .next t → t.Readable (s.isp - 8) 4 → t.Readable (s.isp - 4) 4 →
      Completes .rte t fun r => r.pc = savedPc ∧ r.psw = s.psw ∧ r.isp = s.isp ∧ r.usp = s.usp ∧ r.regs = s.regs ∧
        r.fpsw = s.fpsw ∧ r.acc = s.acc ∧ r.intb = s.intb ∧ r.bpc = s.bpc ∧ r.bpsw = s.bpsw ∧ r.fintv = s.fintv ∧
        SameMemoryBut (s.isp - 8) 8 s r) ∧
    (∀ level, t = s.enterFast level →
      Completes .rtfi t fun r => r.pc = s.pc ∧ r.psw = s.psw ∧ r.isp = s.isp ∧ r.usp = s.usp ∧ r.regs = s.regs ∧
        r.fpsw = s.fpsw ∧ r.acc = s.acc ∧ r.intb = s.intb ∧ r.fintv = s.fintv ∧ SameMemory s r)

/-- RTE and RTFI load every PSW field, force U to 1 on a return to user mode, and are the only instructions that set
PM: no other step leads from supervisor mode to user mode. -/
def Obligations.OnlyReturnsEnterUserMode : Prop :=
  (∀ (ipl3 : Bool) (v : Word), ∀ p, p = Psw.restore ipl3 v →
    p.c = v.getLsbD 0 ∧ p.z = v.getLsbD 1 ∧ p.s = v.getLsbD 2 ∧ p.o = v.getLsbD 3 ∧ p.i = v.getLsbD 16 ∧
    p.u = (v.getLsbD 17 || v.getLsbD 20) ∧ p.pm = v.getLsbD 20 ∧
    p.ipl.toNat = v.toNat / 2 ^ 24 % (if ipl3 then 8 else 16)) ∧
  (∀ s t : State, s.psw.pm = false → exec .rte s = .next t → s.Readable (s.reg 0) 4 → s.Readable (s.reg 0 + 4) 4 →
    t.psw = Psw.restore s.product.ipl3 (s.peek (s.reg 0 + 4) .l)) ∧
  (∀ s t : State, s.psw.pm = false → exec .rtfi s = .next t →
    t.psw = Psw.restore s.product.ipl3 s.bpsw.toWord) ∧
  (∀ s t : State, s.psw.pm = false → step s = .next t → t.psw.pm = true →
    s.sample.fetch = .instr .rte ∨ s.sample.fetch = .instr .rtfi)

/-- No instruction that user mode runs changes INTB, FINTV, BPC or BPSW. While it stays in user mode it changes neither
I, U, IPL nor ISP; it leaves user mode only by exception entry, with U, I and PM 0, IPL kept, and nothing but the 8
bytes of the frame written (R33, R34, R54, R604, R607). That nothing else is done where an access faults is the spec's
decision D18 (log entry 31). -/
def Obligations.UserModeCannotReachSupervisorState : Prop :=
  ∀ (s t : State) (i : Instr), s.psw.pm = true → s.psw.u = true → exec i s = .next t →
    t.intb = s.intb ∧ t.fintv = s.fintv ∧ t.bpc = s.bpc ∧ t.bpsw = s.bpsw ∧ t.psw.ipl = s.psw.ipl ∧
    (t.psw.pm = true → t.psw.i = s.psw.i ∧ t.psw.u = true ∧ t.isp = s.isp) ∧
    (t.psw.pm = false → t.psw.i = false ∧ t.psw.u = false ∧ t.isp = s.isp - 8 ∧ t.usp = s.usp ∧ t.regs = s.regs ∧
      t.psw.c = s.psw.c ∧ t.psw.z = s.psw.z ∧ t.psw.s = s.psw.s ∧ t.psw.o = s.psw.o ∧
      SameMemoryBut (s.isp - 8) 8 s t)

/-! ### Memory and operands -/

/-- Bytes of a word or longword stand in the product's order, a store is read back, and other bytes keep their
values (R81, R82, R85, R88). Which byte of a word is the lower one is PRESUMED by the spec (G2, log entry 37); that
misaligned data is bytewise and that addresses wrap are its decisions D5 and D10 (log entries 24 and 25). Canonical
memories that read alike everywhere are equal (the model's form of memory, log entry 4). -/
def Obligations.MemoryHoldsBytesInOrder : Prop :=
  (∀ m n : List Host.Cell, Memory.wf m = true → Memory.wf n = true →
    (∀ a < 2 ^ 32, Memory.get m a = Memory.get n a) → m = n) ∧
  ∀ (s : State) (a v : Word) (sz : Size), Memory.wf s.mem = true →
    (s.peek a .b).toNat = (s.byteAt a).toNat ∧
    (s.product.bigEndian = false →
      (s.peek a .w).toNat = (s.byteAt a).toNat + 256 * (s.byteAt (a + 1)).toNat ∧
      (s.peek a .l).toNat = (s.byteAt a).toNat + 256 * ((s.byteAt (a + 1)).toNat +
        256 * ((s.byteAt (a + 2)).toNat + 256 * (s.byteAt (a + 3)).toNat))) ∧
    (s.product.bigEndian = true →
      (s.peek a .w).toNat = (s.byteAt (a + 1)).toNat + 256 * (s.byteAt a).toNat ∧
      (s.peek a .l).toNat = (s.byteAt (a + 3)).toNat + 256 * ((s.byteAt (a + 2)).toNat +
        256 * ((s.byteAt (a + 1)).toNat + 256 * (s.byteAt a).toNat))) ∧
    ((s.poke a sz v).peek a sz).toNat = v.toNat % 256 ^ sz.bytes ∧ SameMemoryBut a sz.bytes s (s.poke a sz v) ∧
    Memory.wf (s.poke a sz v).mem = true

/-- The value of a memory source with a size-extension specifier: B and W are sign-extended, UB and UW
zero-extended, L is the longword. -/
def Obligations.MemorySourcesAreExtended : Prop :=
  ∀ (s : State) (rs rd : Reg) (d : Dsp) (a : Word), ∀ r, r = s.reg rs →
    (s.Readable (r + d.field) 1 → s.MxIs .b rs d (BitVec.ofInt 32 (s.byteAt (r + d.field)).toInt) ∧
      s.RmIs (.mem rs d) (BitVec.ofNat 32 (s.byteAt (r + d.field)).toNat)) ∧
    (a = r + 2 * d.field → s.Readable a 2 →
      s.MxIs .w rs d (BitVec.ofInt 32 (BitVec.ofNat 16 (s.peek a .w).toNat).toInt) ∧
      s.MxIs .uw rs d (s.peek a .w) ∧ (s.peek a .w).toNat < 2 ^ 16) ∧
    (a = r + 4 * d.field → s.Readable a 4 → s.MxIs .l rs d (s.peek a .l)) ∧
    (∀ mx v, s.MxIs mx rs d v → Completes (.orMx mx rs d rd) s fun t => t.reg rd = s.reg rd ||| v) ∧
    (∀ v, s.RmIs (.mem rs d) v → Completes (.orRm (.mem rs d) rd) s fun t => t.reg rd = s.reg rd ||| v)

/-! ### Arithmetic and logic -/

/-- ADD and ADC: the sum modulo 2^32, C, O, Z, S, and nothing else (R203, R204). -/
def Obligations.AdditionsGiveSumAndFlags : Prop :=
  ∀ (s : State) (rs rs2 rd : Reg) (imm : BitVec 4),
    Completes (.addUimm4 imm rd) s (HoldsSum rd (s.reg rd) (imm.setWidth 32) false 2 s) ∧
    s.EachRm (fun src => .addRm src rd) 2 (fun v n => HoldsSum rd (s.reg rd) v false n s) ∧
    s.EachMx (fun mx b d => .addMx mx b d rd) 3 (fun v n => HoldsSum rd (s.reg rd) v false n s) ∧
    s.EachImm (fun v => .addImm3 v rs2 rd) 2 (fun v n => HoldsSum rd (s.reg rs2) v false n s) ∧
    Completes (.addRRR rs rs2 rd) s (HoldsSum rd (s.reg rs2) (s.reg rs) false 3 s) ∧
    s.EachImm (fun v => .adcImm v rd) 3 (fun v n => HoldsSum rd (s.reg rd) v s.psw.c n s) ∧
    Completes (.adcRR rs rd) s (HoldsSum rd (s.reg rd) (s.reg rs) s.psw.c 3 s) ∧
    s.EachLong (fun b d => .adcMem b d rd) 4 (fun v n => HoldsSum rd (s.reg rd) v s.psw.c n s)

/-- SUB, SBB and CMP: the difference modulo 2^32, C as no borrow, O, Z, S, and nothing else (R206, R267, R271). -/
def Obligations.SubtractionsGiveDifferenceAndFlags : Prop :=
  ∀ (s : State) (rs rs2 rd : Reg) (imm : BitVec 4) (imm8 : BitVec 8),
    Completes (.subUimm4 imm rd) s (HoldsDifference rd (s.reg rd) (imm.setWidth 32) false 2 s) ∧
    s.EachRm (fun src => .subRm src rd) 2 (fun v n => HoldsDifference rd (s.reg rd) v false n s) ∧
    s.EachMx (fun mx b d => .subMx mx b d rd) 3 (fun v n => HoldsDifference rd (s.reg rd) v false n s) ∧
    Completes (.subRRR rs rs2 rd) s (HoldsDifference rd (s.reg rs2) (s.reg rs) false 3 s) ∧
    Completes (.sbbRR rs rd) s (HoldsDifference rd (s.reg rd) (s.reg rs) (!s.psw.c) 3 s) ∧
    s.EachLong (fun b d => .sbbMem b d rd) 4 (fun v n => HoldsDifference rd (s.reg rd) v (!s.psw.c) n s) ∧
    Completes (.cmpUimm4 imm rs2) s (Compared (s.reg rs2) (imm.setWidth 32) 2 s) ∧
    Completes (.cmpUimm8 imm8 rs2) s (Compared (s.reg rs2) (imm8.setWidth 32) 3 s) ∧
    s.EachImm (fun v => .cmpImm v rs2) 2 (fun v n => Compared (s.reg rs2) v n s) ∧
    s.EachRm (fun src => .cmpRm src rs2) 2 (fun v n => Compared (s.reg rs2) v n s) ∧
    s.EachMx (fun mx b d => .cmpMx mx b d rs2) 3 (fun v n => Compared (s.reg rs2) v n s)

/-- AND, OR, XOR, NOT and TST: the bitwise result with Z and S of it; C and O are kept (R205, R216, R217, R272,
R273). -/
def Obligations.LogicGivesBitsAndZeroSign : Prop :=
  ∀ (s : State) (rs rs2 rd : Reg) (imm : BitVec 4),
    Completes (.andUimm4 imm rd) s (HoldsLogic rd (s.reg rd &&& imm.setWidth 32) 2 s) ∧
    s.EachImm (fun v => .andImm v rd) 2 (fun v n => HoldsLogic rd (s.reg rd &&& v) n s) ∧
    s.EachRm (fun src => .andRm src rd) 2 (fun v n => HoldsLogic rd (s.reg rd &&& v) n s) ∧
    s.EachMx (fun mx b d => .andMx mx b d rd) 3 (fun v n => HoldsLogic rd (s.reg rd &&& v) n s) ∧
    Completes (.andRRR rs rs2 rd) s (HoldsLogic rd (s.reg rs2 &&& s.reg rs) 3 s) ∧
    Completes (.orUimm4 imm rd) s (HoldsLogic rd (s.reg rd ||| imm.setWidth 32) 2 s) ∧
    s.EachImm (fun v => .orImm v rd) 2 (fun v n => HoldsLogic rd (s.reg rd ||| v) n s) ∧
    s.EachRm (fun src => .orRm src rd) 2 (fun v n => HoldsLogic rd (s.reg rd ||| v) n s) ∧
    s.EachMx (fun mx b d => .orMx mx b d rd) 3 (fun v n => HoldsLogic rd (s.reg rd ||| v) n s) ∧
    Completes (.orRRR rs rs2 rd) s (HoldsLogic rd (s.reg rs2 ||| s.reg rs) 3 s) ∧
    s.EachImm (fun v => .xorImm v rd) 3 (fun v n => HoldsLogic rd (s.reg rd ^^^ v) n s) ∧
    s.EachRm (fun src => .xorRm src rd) 3 (fun v n => HoldsLogic rd (s.reg rd ^^^ v) n s) ∧
    s.EachMx (fun mx b d => .xorMx mx b d rd) 4 (fun v n => HoldsLogic rd (s.reg rd ^^^ v) n s) ∧
    Completes (.notR rd) s (HoldsLogic rd (~~~(s.reg rd)) 2 s) ∧
    Completes (.notRR rs rd) s (HoldsLogic rd (~~~(s.reg rs)) 3 s) ∧
    s.EachImm (fun v => .tstImm v rs2) 3 (fun v n => Tested (s.reg rs2 &&& v) n s) ∧
    s.EachRm (fun src => .tstRm src rs2) 3 (fun v n => Tested (s.reg rs2 &&& v) n s) ∧
    s.EachMx (fun mx b d => .tstMx mx b d rs2) 4 (fun v n => Tested (s.reg rs2 &&& v) n s)

/-- MUL keeps the low 32 bits; EMUL and EMULU write the exact 64-bit product to a register pair; ACC is free, no flag
changes (R209, R210, R213). DIV and DIVU: the quotient with O = 0, or, for a zero divisor and for -2^31 / -1, O = 1
and a free value; no exception, and C, Z, S are kept (R207, R208). -/
def Obligations.ProductsAndQuotients : Prop :=
  ∀ (s : State) (rs rs2 rd : Reg) (imm : BitVec 4),
    Completes (.mulUimm4 imm rd) s (Product32 rd (s.reg rd) (imm.setWidth 32) 2 s) ∧
    s.EachImm (fun v => .mulImm v rd) 2 (fun v n => Product32 rd (s.reg rd) v n s) ∧
    s.EachRm (fun src => .mulRm src rd) 2 (fun v n => Product32 rd (s.reg rd) v n s) ∧
    s.EachMx (fun mx b d => .mulMx mx b d rd) 3 (fun v n => Product32 rd (s.reg rd) v n s) ∧
    Completes (.mulRRR rs rs2 rd) s (Product32 rd (s.reg rs2) (s.reg rs) 3 s) ∧
    (rd ≠ 15 →
      s.EachImm (fun v => .emulImm v rd) 3 (fun v n => SignedProduct64 rd (s.reg rd) v n s) ∧
      s.EachRm (fun src => .emulRm src rd) 3 (fun v n => SignedProduct64 rd (s.reg rd) v n s) ∧
      s.EachMx (fun mx b d => .emulMx mx b d rd) 4 (fun v n => SignedProduct64 rd (s.reg rd) v n s) ∧
      s.EachImm (fun v => .emuluImm v rd) 3 (fun v n => UnsignedProduct64 rd (s.reg rd) v n s) ∧
      s.EachRm (fun src => .emuluRm src rd) 3 (fun v n => UnsignedProduct64 rd (s.reg rd) v n s) ∧
      s.EachMx (fun mx b d => .emuluMx mx b d rd) 4 (fun v n => UnsignedProduct64 rd (s.reg rd) v n s)) ∧
    s.EachImm (fun v => .divImm v rd) 3 (fun v n => HoldsQuotient rd (s.reg rd) v n s) ∧
    s.EachRm (fun src => .divRm src rd) 3 (fun v n => HoldsQuotient rd (s.reg rd) v n s) ∧
    s.EachMx (fun mx b d => .divMx mx b d rd) 4 (fun v n => HoldsQuotient rd (s.reg rd) v n s) ∧
    s.EachImm (fun v => .divuImm v rd) 3 (fun v n => HoldsUnsignedQuotient rd (s.reg rd) v n s) ∧
    s.EachRm (fun src => .divuRm src rd) 3 (fun v n => HoldsUnsignedQuotient rd (s.reg rd) v n s) ∧
    s.EachMx (fun mx b d => .divuMx mx b d rd) 4 (fun v n => HoldsUnsignedQuotient rd (s.reg rd) v n s)

/-- MAX and MIN select by the signed values, without a flag; NOP does nothing (R211, R212, R215). ABS and NEG: the
value, Z and S of it, and O for 80000000h; NEG sets C for a zero result, ABS keeps C (R202, R214). -/
def Obligations.MaxMinAbsAndNegate : Prop :=
  ∀ (s : State) (rs rd : Reg) (a : Word),
    s.EachImm (fun v => .maxImm v rd) 3 (fun v n => HoldsInt rd (max (s.reg rd).toInt v.toInt) n s) ∧
    s.EachRm (fun src => .maxRm src rd) 3 (fun v n => HoldsInt rd (max (s.reg rd).toInt v.toInt) n s) ∧
    s.EachMx (fun mx b d => .maxMx mx b d rd) 4 (fun v n => HoldsInt rd (max (s.reg rd).toInt v.toInt) n s) ∧
    s.EachImm (fun v => .minImm v rd) 3 (fun v n => HoldsInt rd (min (s.reg rd).toInt v.toInt) n s) ∧
    s.EachRm (fun src => .minRm src rd) 3 (fun v n => HoldsInt rd (min (s.reg rd).toInt v.toInt) n s) ∧
    s.EachMx (fun mx b d => .minMx mx b d rd) 4 (fun v n => HoldsInt rd (min (s.reg rd).toInt v.toInt) n s) ∧
    Completes .nop s (Jumped (s.after 1) s) ∧
    (a = s.reg rd → Completes (.absR rd) s fun t => ∃ r : Word,
      (a.toInt ≠ -2 ^ 31 → r.toInt = |a.toInt|) ∧ (a.toInt = -2 ^ 31 → r = a) ∧ ZsOf r t ∧
      (t.psw.o = true ↔ a.toInt = -2 ^ 31) ∧ Wrote rd r [.z, .s, .o] 2 s t) ∧
    (a = s.reg rs → Completes (.absRR rs rd) s fun t => ∃ r : Word,
      (a.toInt ≠ -2 ^ 31 → r.toInt = |a.toInt|) ∧ (a.toInt = -2 ^ 31 → r = a) ∧ ZsOf r t ∧
      (t.psw.o = true ↔ a.toInt = -2 ^ 31) ∧ Wrote rd r [.z, .s, .o] 3 s t) ∧
    (a = s.reg rd → Completes (.negR rd) s fun t => ∃ r : Word,
      r.toNat = (2 ^ 32 - a.toNat) % 2 ^ 32 ∧ ZsOf r t ∧ (t.psw.c = true ↔ r.toNat = 0) ∧
      (t.psw.o = true ↔ a.toInt = -2 ^ 31) ∧ Wrote rd r [.c, .z, .s, .o] 2 s t) ∧
    (a = s.reg rs → Completes (.negRR rs rd) s fun t => ∃ r : Word,
      r.toNat = (2 ^ 32 - a.toNat) % 2 ^ 32 ∧ ZsOf r t ∧ (t.psw.c = true ↔ r.toNat = 0) ∧
      (t.psw.o = true ↔ a.toInt = -2 ^ 31) ∧ Wrote rd r [.c, .z, .s, .o] 3 s t)

/-- SAT after an overflow gives the limit on the side the overflow left; after ADD and SUB that is the signed limit
nearest the exact result. SATR saturates R6:R5:R4 by the true sign S (R265, R266). -/
def Obligations.SaturationGivesTheNearestLimit : Prop :=
  ∀ (s : State) (rd : Reg),
    Completes (.sat rd) s (Wrote rd
      (if s.psw.o = true ∧ s.psw.s = true then 0x7FFFFFFF else if s.psw.o = true then 0x80000000 else s.reg rd)
      [] 2 s) ∧
    (∀ rs rs2 t, exec (.addRRR rs rs2 rd) s = .next t → Completes (.sat rd) t fun u =>
      (u.reg rd).toInt = max (-2 ^ 31) (min (2 ^ 31 - 1) ((s.reg rs2).toInt + (s.reg rs).toInt))) ∧
    (∀ rs rs2 t, exec (.subRRR rs rs2 rd) s = .next t → Completes (.sat rd) t fun u =>
      (u.reg rd).toInt = max (-2 ^ 31) (min (2 ^ 31 - 1) ((s.reg rs2).toInt - (s.reg rs).toInt))) ∧
    Completes .satr s fun t =>
      (s.psw.o = false → t.reg 6 = s.reg 6 ∧ t.reg 5 = s.reg 5 ∧ t.reg 4 = s.reg 4) ∧
      (s.psw.o = true → s.psw.s = false → t.reg 6 = 0 ∧ t.reg 5 = 0x7FFFFFFF ∧ t.reg 4 = 0xFFFFFFFF) ∧
      (s.psw.o = true → s.psw.s = true → t.reg 6 = 0xFFFFFFFF ∧ t.reg 5 = 0x80000000 ∧ t.reg 4 = 0) ∧
      t.pc = s.after 2 ∧ Frame [4, 5, 6] [] s t

/-- SHAR, SHLR and SHLL: the value, C as the last bit out, Z, S, and O as each rule has it; a register count uses
its low 5 bits (R268, R269, R270). -/
def Obligations.ShiftsGiveValueAndFlags : Prop :=
  ∀ (s : State) (rs rs2 rd : Reg) (imm : BitVec 5) (k : Nat), k = (s.reg rs).toNat % 32 →
    Completes (.sharImm imm rd) s (ShiftedArithmetic rd (s.reg rd) imm.toNat 2 s) ∧
    Completes (.sharRR rs rd) s (ShiftedArithmetic rd (s.reg rd) k 3 s) ∧
    Completes (.sharImm3 imm rs2 rd) s (ShiftedArithmetic rd (s.reg rs2) imm.toNat 3 s) ∧
    Completes (.shlrImm imm rd) s (ShiftedRight rd (s.reg rd) imm.toNat 2 s) ∧
    Completes (.shlrRR rs rd) s (ShiftedRight rd (s.reg rd) k 3 s) ∧
    Completes (.shlrImm3 imm rs2 rd) s (ShiftedRight rd (s.reg rs2) imm.toNat 3 s) ∧
    Completes (.shllImm imm rd) s (ShiftedLeft rd (s.reg rd) imm.toNat 2 s) ∧
    Completes (.shllRR rs rd) s (ShiftedLeft rd (s.reg rd) k 3 s) ∧
    Completes (.shllImm3 imm rs2 rd) s (ShiftedLeft rd (s.reg rs2) imm.toNat 3 s)

/-- ROTL and ROTR move every bit by the count and set C, Z, S from the result, also for a count of 0; ROLC and RORC
rotate 33 bits, the carry among them, with Z and S of the result and O kept (R261 to R264). -/
def Obligations.RotatesMoveEveryBit : Prop :=
  ∀ (s : State) (rs rd : Reg) (imm : BitVec 5) (k : Nat), k = (s.reg rs).toNat % 32 →
    Completes (.rotlImm imm rd) s (RotatedLeft rd (s.reg rd) imm.toNat 3 s) ∧
    Completes (.rotlRR rs rd) s (RotatedLeft rd (s.reg rd) k 3 s) ∧
    Completes (.rotrImm imm rd) s (RotatedRight rd (s.reg rd) imm.toNat 3 s) ∧
    Completes (.rotrRR rs rd) s (RotatedRight rd (s.reg rd) k 3 s) ∧
    (Completes (.rolc rd) s fun t => ∃ r : Word, r.getLsbD 0 = s.psw.c ∧
      (∀ j < 31, r.getLsbD (j + 1) = (s.reg rd).getLsbD j) ∧ t.psw.c = (s.reg rd).getLsbD 31 ∧ ZsOf r t ∧
      Wrote rd r [.c, .z, .s] 2 s t) ∧
    (Completes (.rorc rd) s fun t => ∃ r : Word, r.getLsbD 31 = s.psw.c ∧
      (∀ j < 31, r.getLsbD j = (s.reg rd).getLsbD (j + 1)) ∧ t.psw.c = (s.reg rd).getLsbD 0 ∧ ZsOf r t ∧
      Wrote rd r [.c, .z, .s] 2 s t)

/-! ### Floating point -/

/-- With an FPU, every floating-point instruction completes with its result and FPSW where its events do not trap, and
otherwise takes the floating-point exception with its destination and the PSW flags as they were (R325, R333, R335 to
R343). That FMUL leaves ACC free also on a trap, and that a fault inside the entry is stuck, are the spec's decision D14
(log entries 23 and 12); the mark of an RMPA under way is the model's (log entry 14). -/
def Obligations.FloatingPointInstructionsRunOrTrap : Prop :=
  ∀ (s : State) (rd : Reg) (imm a : Word), Memory.wf s.mem = true → s.product.hasFpu = true → a = s.reg rd →
    (FpRuns (.faddImm imm rd) rd (fpAdd s.fpsw a imm) (isZero (fpAdd s.fpsw a imm).1) false 7 s ∧
      FpRuns (.fsubImm imm rd) rd (fpSub s.fpsw a imm) (isZero (fpSub s.fpsw a imm).1) false 7 s ∧
      FpRuns (.fmulImm imm rd) rd (fpMul s.fpsw a imm) (isZero (fpMul s.fpsw a imm).1) true 7 s ∧
      FpRuns (.fdivImm imm rd) rd (fpDiv s.fpsw a imm) (isZero (fpDiv s.fpsw a imm).1) false 7 s ∧
      FcmpRuns (.fcmpImm imm rd) (fpCompare s.fpsw a imm) 7 s) ∧
    (∀ src v n, s.LIs src v → n = 3 + src.len →
      FpRuns (.faddRm src rd) rd (fpAdd s.fpsw a v) (isZero (fpAdd s.fpsw a v).1) false n s ∧
      FpRuns (.fsubRm src rd) rd (fpSub s.fpsw a v) (isZero (fpSub s.fpsw a v).1) false n s ∧
      FpRuns (.fmulRm src rd) rd (fpMul s.fpsw a v) (isZero (fpMul s.fpsw a v).1) true n s ∧
      FpRuns (.fdivRm src rd) rd (fpDiv s.fpsw a v) (isZero (fpDiv s.fpsw a v).1) false n s ∧
      FcmpRuns (.fcmpRm src rd) (fpCompare s.fpsw a v) n s ∧
      FpRuns (.ftoiRm src rd) rd (fpToInt s.fpsw 1 v) ((fpToInt s.fpsw 1 v).1 == 0) false n s ∧
      FpRuns (.roundRm src rd) rd (fpToInt s.fpsw s.fpsw.rm v) ((fpToInt s.fpsw s.fpsw.rm v).1 == 0) false n s) ∧
    (∀ src v, s.RmIs src v →
      FpRuns (.itofRm src rd) rd (intToFp s.fpsw v) (isZero (intToFp s.fpsw v).1) false (3 + src.len) s) ∧
    (∀ mx b d v, s.MxIs mx b d v →
      FpRuns (.itofMx mx b d rd) rd (intToFp s.fpsw v) (isZero (intToFp s.fpsw v).1) false (4 + d.len) s)

/-- FADD, FSUB, FMUL and FDIV of normalized numbers, and ITOF, give the exact rational result rounded once in the
mode, with the events of R324 (underflow on the exact and overflow on the rounded value, the spec's D16; the zero of
an underflow, D17). -/
def Obligations.FloatingPointResultsAreCorrectlyRounded : Prop :=
  ∀ (f : Fpsw) (d s : Word),
    (IsNormal d → IsNormal s →
      (fpValue d + fpValue s ≠ 0 → IsFpResult f (fpValue d + fpValue s) (fpAdd f d s)) ∧
      (fpValue d + fpValue s = 0 → fpAdd f d s = (signedZero (f.rm == 3), {})) ∧
      (fpValue d - fpValue s ≠ 0 → IsFpResult f (fpValue d - fpValue s) (fpSub f d s)) ∧
      (fpValue d - fpValue s = 0 → fpSub f d s = (signedZero (f.rm == 3), {})) ∧
      IsFpResult f (fpValue d * fpValue s) (fpMul f d s) ∧
      IsFpResult f (fpValue d / fpValue s) (fpDiv f d s)) ∧
    (d.toInt ≠ 0 → IsFpResult f (d.toInt : ℚ) (intToFp f d)) ∧ (d.toInt = 0 → intToFp f d = (0, {}))

/-- NaN operands, denormalized operands, infinities and zeros: the order of R322 and the tables of R327, R335,
R337, R338, R339. The order is the spec's decision D15; that a finite number plus an infinity is that infinity (G5), and
the exclusive or as the sign of a product or quotient in the cells printed without one (G9), are PRESUMED by the spec
(log entry 22). That a denormalized dividend with DN = 1 is a zero over a zero divisor too is the model's choice (log
entry 38). -/
def Obligations.SpecialOperandsFollowTheTables : Prop :=
  ∀ (f : Fpsw) (d s : Word) (a b : Bool),
    (∀ op ∈ [fpAdd, fpSub, fpMul, fpDiv],
      (isSNaN d = true → op f d s = (quiet d, { v := true })) ∧
      (isSNaN d = false → isSNaN s = true → op f d s = (quiet s, { v := true })) ∧
      (isQNaN d = true → isSNaN s = false → op f d s = (d, {})) ∧
      (isNaN d = false → isQNaN s = true → op f d s = (s, {})) ∧
      (isNaN d = false → isNaN s = false → (isDenormal d = true ∨ isDenormal s = true) → f.dn = false →
        (op f d s).2 = { e := true }) ∧
      (f.dn = true → op f d s = op f (flushDenormal d) (flushDenormal s))) ∧
    fpAdd f (signedInf a) (signedInf b) = (if a = b then (signedInf a, {}) else (0x7FFFFFFF, { v := true })) ∧
    fpMul f (signedInf a) (signedInf b) = (signedInf (a ^^ b), {}) ∧
    fpMul f (signedInf a) (signedZero b) = (0x7FFFFFFF, { v := true }) ∧
    fpMul f (signedZero a) (signedInf b) = (0x7FFFFFFF, { v := true }) ∧
    fpDiv f (signedInf a) (signedInf b) = (0x7FFFFFFF, { v := true }) ∧
    fpDiv f (signedZero a) (signedZero b) = (0x7FFFFFFF, { v := true }) ∧
    fpDiv f (signedInf a) (signedZero b) = (signedInf (a ^^ b), {}) ∧
    fpDiv f (signedZero a) (signedInf b) = (signedZero (a ^^ b), {}) ∧
    fpAdd f (signedZero a) (signedZero b) = (if a = b then signedZero a else signedZero (f.rm == 3), {}) ∧
    fpMul f (signedZero a) (signedZero b) = (signedZero (a ^^ b), {}) ∧
    fpAdd f (signedInf a) (signedZero b) = (signedInf a, {}) ∧
    fpAdd f (signedZero a) (signedInf b) = (signedInf b, {}) ∧
    (IsNormal d →
      fpAdd f d (signedInf b) = (signedInf b, {}) ∧ fpAdd f (signedInf b) d = (signedInf b, {}) ∧
      fpAdd f d (signedZero b) = (d, {}) ∧ fpAdd f (signedZero b) d = (d, {}) ∧
      fpMul f d (signedInf b) = (signedInf (d.msb ^^ b), {}) ∧ fpMul f (signedInf b) d = (signedInf (d.msb ^^ b), {}) ∧
      fpMul f d (signedZero b) = (signedZero (d.msb ^^ b), {}) ∧
      fpMul f (signedZero b) d = (signedZero (d.msb ^^ b), {}) ∧
      fpDiv f d (signedInf b) = (signedZero (d.msb ^^ b), {}) ∧ fpDiv f (signedInf b) d = (signedInf (d.msb ^^ b), {}) ∧
      fpDiv f d (signedZero b) = (signedInf (d.msb ^^ b), { z := true }) ∧
      fpDiv f (signedZero b) d = (signedZero (d.msb ^^ b), {})) ∧
    (isNaN d = false → isNaN s = false → isDenormal s = false → fpSub f d s = fpAdd f d (s ^^^ 0x80000000))

/-- FCMP orders numbers by value, with both zeros equal and the infinities outermost; a NaN is unordered, and only an
SNaN is an invalid operation (R322, R336). That an SNaN, then a QNaN, goes before a denormalized operand is the spec's
decision D15 (log entry 22). -/
def Obligations.ComparisonOrdersByValue : Prop :=
  ∀ (f : Fpsw) (a b : Word),
    (isSNaN a = true ∨ isSNaN b = true → fpCompare f a b = (.unordered, { v := true })) ∧
    (isSNaN a = false → isSNaN b = false → (isQNaN a = true ∨ isQNaN b = true) → fpCompare f a b = (.unordered, {})) ∧
    (isNaN a = false → isNaN b = false → (isDenormal a = true ∨ isDenormal b = true) →
      (f.dn = false → (fpCompare f a b).2 = { e := true }) ∧
      (f.dn = true → fpCompare f a b = fpCompare f (flushDenormal a) (flushDenormal b))) ∧
    ((isZero a = true ∨ IsNormal a) → (isZero b = true ∨ IsNormal b) →
      fpCompare f a b =
        (if fpReal a = fpReal b then .equal else if fpReal a < fpReal b then .less else .greater, {})) ∧
    (isInf a = true → isInf b = true →
      fpCompare f a b = (if a.msb = b.msb then .equal else if a.msb then .less else .greater, {})) ∧
    (isInf a = true → (isZero b = true ∨ IsNormal b) →
      fpCompare f a b = (if a.msb then .less else .greater, {}) ∧
      fpCompare f b a = (if a.msb then .greater else .less, {}))

/-- FTOI and ROUND: the integer to which the value rounds in the mode, the inexact event when it differs, and the
limits with an invalid operation outside the range and for NaN and infinity; -2^31 itself converts (R340). -/
def Obligations.ConversionsToIntegerRound : Prop :=
  ∀ (f : Fpsw) (rm : BitVec 2) (v : Word),
    (isNaN v = true ∨ isInf v = true ∨ (IsNormal v ∧ 2 ^ 31 ≤ |fpValue v| ∧ fpValue v ≠ -2 ^ 31) →
      fpToInt f rm v = (if v.msb then 0x80000000 else 0x7FFFFFFF, { v := true })) ∧
    (isZero v = true → fpToInt f rm v = (0, {})) ∧
    (isDenormal v = true → fpToInt f rm v = (0, { e := !f.dn })) ∧
    (IsNormal v → fpValue v = -2 ^ 31 → fpToInt f rm v = (0x80000000, {})) ∧
    (IsNormal v → |fpValue v| < 2 ^ 31 →
      RoundsToInt rm (fpValue v) (fpToInt f rm v).1.toInt ∧
      (fpToInt f rm v).2 = { x := decide (((fpToInt f rm v).1.toInt : ℚ) ≠ fpValue v) })

/-- FS reads as the OR of FU, FZ, FO and FV, and a write to b31 has no effect; without floating-point instructions
FPSW always reads 0 and ignores writes. -/
def Obligations.FpswReadsAsItsRulesSay : Prop :=
  ∀ (s : State) (rs rd : Reg) (imm : Simm),
    (s.product.hasFpu = true →
      (Completes (.mvfc .fpsw rd) s fun t => (t.reg rd).getLsbD 31 =
        ((t.reg rd).getLsbD 29 || (t.reg rd).getLsbD 28 || (t.reg rd).getLsbD 27 || (t.reg rd).getLsbD 26)) ∧
      (∀ v, s.fpsw.write (v ^^^ 0x80000000) = s.fpsw.write v) ∧
      (s.reg rd = s.reg rs ^^^ 0x80000000 → ∀ t u v, exec (.mvtcR rs .fpsw) s = .next t →
        exec (.mvtcR rd .fpsw) s = .next u → exec (.mvfc .fpsw v) t = exec (.mvfc .fpsw v) u)) ∧
    (s.product.hasFpu = false →
      Completes (.mvfc .fpsw rd) s (Wrote rd 0 [] 3 s) ∧
      (s.Writable (s.reg 0 - 4) 4 → Memory.wf s.mem = true →
        Completes (.pushc .fpsw) s (Pushed .l 0 (s.after 2) s)) ∧
      (s.Readable (s.reg 0) 4 → Completes (.popc .fpsw) s fun t =>
        t.reg 0 = s.reg 0 + 4 ∧ t.pc = s.after 2 ∧ Frame [0] [] s t) ∧
      Completes (.mvtcR rs .fpsw) s (Jumped (s.after 3) s) ∧
      Completes (.mvtcImm imm .fpsw) s (Jumped (s.after (3 + imm.len)) s))

/-! ### Transfer -/

/-- MOV and MOVU to a register from an immediate or a register, STZ, STNZ, SCCnd of a register, XCHG of registers
(R381, R382, R383, R392 to R395). -/
def Obligations.MovesFillRegisters : Prop :=
  ∀ (s : State) (rs rd : Reg) (imm : BitVec 4) (imm8 : BitVec 8) (cd : Cond) (sz : Size) (msz : MovuSize),
    Completes (.movUimm4 imm rd) s (Wrote rd (imm.setWidth 32) [] 2 s) ∧
    Completes (.movUimm8 imm8 rd) s (Wrote rd (imm8.setWidth 32) [] 3 s) ∧
    s.EachImm (fun v => .movImm v rd) 2 (fun v n => Wrote rd v [] n s) ∧
    Completes (.movRR sz rs rd) s (Wrote rd (sz.signExtend (s.reg rs)) [] 2 s) ∧
    Completes (.movuRm msz (.reg rs) rd) s (Wrote rd (msz.size.zeroExtend (s.reg rs)) [] 2 s) ∧
    s.EachImm (fun v => .stz v rd) 3 (fun v n => Wrote rd (if s.psw.z then v else s.reg rd) [] n s) ∧
    s.EachImm (fun v => .stnz v rd) 3 (fun v n => Wrote rd (if s.psw.z then s.reg rd else v) [] n s) ∧
    Completes (.sccnd cd .l (.reg rd)) s (Wrote rd (if s.psw.holds cd then 1 else 0) [] 3 s) ∧
    (Completes (.xchgRm (.reg rs) rd) s fun t =>
      t.reg rd = s.reg rs ∧ t.reg rs = s.reg rd ∧ t.pc = s.after 3 ∧ Frame [rs, rd] [] s t)

/-- MOV loads sign-extend and MOVU loads zero-extend, from each addressing mode without update (R381 to R383);
the extensions and the immediates as numbers (R6, R83, R102, R128). -/
def Obligations.LoadsExtendIntoRegisters : Prop :=
  ∀ (s : State) (r r' rd : Reg) (low low' : LowReg) (d : Dsp) (d5 : BitVec 5) (sz : Size) (msz : MovuSize)
    (v : Word),
    (s.Readable (s.ea r d sz) sz.bytes →
      Completes (.movLoad sz r d rd) s (Wrote rd (sz.signExtend (s.peek (s.ea r d sz) sz)) [] (2 + d.len) s)) ∧
    (s.Readable (s.eaShort low d5 sz) sz.bytes → Completes (.movLoadD5 sz d5 low low') s
      (Wrote (lowReg low') (sz.signExtend (s.peek (s.eaShort low d5 sz) sz)) [] 2 s)) ∧
    (s.Readable (s.eaIndexed r r' sz) sz.bytes → Completes (.movLoadIdx sz r r' rd) s
      (Wrote rd (sz.signExtend (s.peek (s.eaIndexed r r' sz) sz)) [] 3 s)) ∧
    (s.Readable (s.ea r d msz.size) msz.size.bytes → Completes (.movuRm msz (.mem r d) rd) s
      (Wrote rd (s.peek (s.ea r d msz.size) msz.size) [] (2 + d.len) s)) ∧
    (s.Readable (s.eaShort low d5 msz.size) msz.size.bytes → Completes (.movuLoadD5 msz d5 low low') s
      (Wrote (lowReg low') (s.peek (s.eaShort low d5 msz.size) msz.size) [] 2 s)) ∧
    (s.Readable (s.eaIndexed r r' msz.size) msz.size.bytes → Completes (.movuLoadIdx msz r r' rd) s
      (Wrote rd (s.peek (s.eaIndexed r r' msz.size) msz.size) [] 3 s)) ∧
    (Size.b.signExtend v).toInt = (v.toInt + 2 ^ 7) % 2 ^ 8 - 2 ^ 7 ∧
    (Size.w.signExtend v).toInt = (v.toInt + 2 ^ 15) % 2 ^ 16 - 2 ^ 15 ∧ Size.l.signExtend v = v ∧
    (Size.b.zeroExtend v).toNat = v.toNat % 2 ^ 8 ∧ (Size.w.zeroExtend v).toNat = v.toNat % 2 ^ 16 ∧
    Size.l.zeroExtend v = v ∧
    (∀ i : BitVec 8, (Simm.s8 i).value.toInt = i.toInt) ∧ (∀ i : BitVec 16, (Simm.s16 i).value.toInt = i.toInt) ∧
    (∀ i : BitVec 24, (Simm.s24 i).value.toInt = i.toInt) ∧ (Simm.i32 v).value = v

/-- MOV and SCCnd to memory store the low bytes of the value and change nothing else; memory to memory reads first;
XCHG puts the extended memory value in Rd and the low bytes of the old Rd in memory (R381, R382, R392, R395). -/
def Obligations.StoresWriteOnlyTheirBytes : Prop :=
  ∀ (s : State) (r r' rs : Reg) (low low' : LowReg) (d d' : Dsp) (d5 : BitVec 5) (sz : Size) (imm : Simm)
    (imm8 : BitVec 8) (cd : Cond) (a : Word) (mx : Memex), Memory.wf s.mem = true →
    (s.Writable a sz.bytes →
      (a = s.ea r d sz →
        Completes (.movStore sz rs r d) s (Stored [] a sz (s.reg rs) (2 + d.len) s) ∧
        Completes (.movImmMem sz imm r d) s (Stored [] a sz imm.value (2 + d.len + imm.len) s) ∧
        Completes (.sccnd cd sz (.mem r d)) s (Stored [] a sz (if s.psw.holds cd then 1 else 0) (3 + d.len) s)) ∧
      (a = s.eaShort low d5 sz →
        Completes (.movStoreD5 sz low' d5 low) s (Stored [] a sz (s.reg (lowReg low')) 2 s) ∧
        Completes (.movImmD5 sz imm8 d5 low) s (Stored [] a sz (imm8.setWidth 32) 3 s)) ∧
      (a = s.eaIndexed r r' sz → Completes (.movStoreIdx sz rs r r') s (Stored [] a sz (s.reg rs) 3 s)) ∧
      (a = s.ea r' d' sz → s.Readable (s.ea r d sz) sz.bytes →
        Completes (.movMemMem sz r d r' d') s (Stored [] a sz (s.peek (s.ea r d sz) sz) (2 + d.len + d'.len) s))) ∧
    (s.Readable (s.ea r d .b) 1 → s.Writable (s.ea r d .b) 1 → Completes (.xchgRm (.mem r d) rs) s fun t =>
      t.reg rs = s.peek (s.ea r d .b) .b ∧ Stored [rs] (s.ea r d .b) .b (s.reg rs) (3 + d.len) s t) ∧
    (s.Readable (s.ea r d mx.size) mx.size.bytes → s.Writable (s.ea r d mx.size) mx.size.bytes →
      Completes (.xchgMx mx r d rs) s fun t =>
        t.reg rs = mx.extend (s.peek (s.ea r d mx.size) mx.size) ∧
        Stored [rs] (s.ea r d mx.size) mx.size (s.reg rs) (4 + d.len) s t)

/-- [Rn+] accesses Rn and then adds the size, [-Rn] subtracts the size and then accesses, [Ri, Rb] accesses Rb plus Ri
times the size (R106 to R108); a store takes its data before the update and a load writes its data last (R382,
R383). -/
def Obligations.UpdatingAndIndexedModesAccessTheirAddress : Prop :=
  ∀ (s : State) (r rd : Reg) (sz : Size) (msz : MovuSize) (n : Word), Memory.wf s.mem = true →
    (n = BitVec.ofNat 32 sz.bytes →
      (s.Readable (s.reg r) sz.bytes → Completes (.movLoadAuto .postInc sz r rd) s
        (LoadedAuto r rd (sz.signExtend (s.peek (s.reg r) sz)) (s.reg r + n) 3 s)) ∧
      (s.Readable (s.reg r - n) sz.bytes → Completes (.movLoadAuto .preDec sz r rd) s
        (LoadedAuto r rd (sz.signExtend (s.peek (s.reg r - n) sz)) (s.reg r - n) 3 s)) ∧
      (s.Writable (s.reg r) sz.bytes → Completes (.movStoreAuto .postInc sz rd r) s fun t =>
        t.reg r = s.reg r + n ∧ Stored [r] (s.reg r) sz (s.reg rd) 3 s t) ∧
      (s.Writable (s.reg r - n) sz.bytes → Completes (.movStoreAuto .preDec sz rd r) s fun t =>
        t.reg r = s.reg r - n ∧ Stored [r] (s.reg r - n) sz (s.reg rd) 3 s t) ∧
      (∀ ri, s.Readable (s.reg ri * n + s.reg r) sz.bytes → Completes (.movLoadIdx sz ri r rd) s
        (Wrote rd (sz.signExtend (s.peek (s.reg ri * n + s.reg r) sz)) [] 3 s)) ∧
      (∀ ri, s.Writable (s.reg ri * n + s.reg r) sz.bytes → Completes (.movStoreIdx sz rd ri r) s
        (Stored [] (s.reg ri * n + s.reg r) sz (s.reg rd) 3 s))) ∧
    (n = BitVec.ofNat 32 msz.size.bytes →
      (s.Readable (s.reg r) msz.size.bytes → Completes (.movuLoadAuto .postInc msz r rd) s
        (LoadedAuto r rd (s.peek (s.reg r) msz.size) (s.reg r + n) 3 s)) ∧
      (s.Readable (s.reg r - n) msz.size.bytes → Completes (.movuLoadAuto .preDec msz r rd) s
        (LoadedAuto r rd (s.peek (s.reg r - n) msz.size) (s.reg r - n) 3 s)) ∧
      (∀ ri, s.Readable (s.reg ri * n + s.reg r) msz.size.bytes → Completes (.movuLoadIdx msz ri r rd) s
        (Wrote rd (s.peek (s.reg ri * n + s.reg r) msz.size) [] 3 s)))

/-- REVL and REVW put the bytes of Rs into Rd in their order, from their one encoding, and change no flag. -/
def Obligations.ByteReversalsReorderBytes : Prop :=
  ∀ (s : State) (rs rd : Reg) (f : Byte), f = (BitVec.ofFin rs : BitVec 4) ++ (BitVec.ofFin rd : BitVec 4) →
    decode s.product [0xFD, 0x67, f] = .instr (.revl rs rd) [] ∧
    (Completes (.revl rs rd) s fun t => ∃ r : Word, Wrote rd r [] 3 s t ∧
      (∀ j < 8, r.getLsbD (24 + j) = (s.reg rs).getLsbD j ∧ r.getLsbD (16 + j) = (s.reg rs).getLsbD (8 + j) ∧
        r.getLsbD (8 + j) = (s.reg rs).getLsbD (16 + j) ∧ r.getLsbD j = (s.reg rs).getLsbD (24 + j))) ∧
    decode s.product [0xFD, 0x65, f] = .instr (.revw rs rd) [] ∧
    (Completes (.revw rs rd) s fun t => ∃ r : Word, Wrote rd r [] 3 s t ∧
      (∀ j < 8, r.getLsbD (24 + j) = (s.reg rs).getLsbD (16 + j) ∧ r.getLsbD (16 + j) = (s.reg rs).getLsbD (24 + j) ∧
        r.getLsbD (8 + j) = (s.reg rs).getLsbD j ∧ r.getLsbD j = (s.reg rs).getLsbD (8 + j)))

/-- PUSH and PUSHC write one longword below the stack pointer, read before it goes down (the upper bytes of .B and .W
are free); POP and POPC read one and raise the stack pointer before the destination is written (R384, R385, R387,
R388). -/
def Obligations.PushAndPopMoveOneLongword : Prop :=
  ∀ (s : State) (rs rd : Reg) (d : Dsp) (sz : Size) (cr : CReg), Memory.wf s.mem = true →
    (s.Writable (s.reg 0 - 4) 4 →
      Completes (.pushR sz rs) s (Pushed sz (s.reg rs) (s.after 2) s) ∧
      Completes (.pushc cr) s (Pushed .l (s.ctrlRead cr) (s.after 2) s) ∧
      (s.Readable (s.ea rs d sz) sz.bytes →
        Completes (.pushMem sz rs d) s (Pushed sz (s.peek (s.ea rs d sz) sz) (s.after (2 + d.len)) s))) ∧
    (s.Readable (s.reg 0) 4 →
      (Completes (.pop rd) s fun t => t.reg rd = s.peek (s.reg 0) .l ∧ (rd ≠ 0 → t.reg 0 = s.reg 0 + 4) ∧
        t.pc = s.after 2 ∧ Frame [0, rd] [] s t) ∧
      (cr ≠ .pc → Completes (.popc cr) s
        (CtrlWritten cr (s.peek (s.reg 0) .l) 2 (s.setReg 0 (s.reg 0 + 4)))))

/-- PUSHM stores the range with its lowest register at the lowest address and POPM loads it so; a reversed range is
refused (R172, R386, R389, P1). -/
def Obligations.RangesMoveInRegisterOrder : Prop :=
  ∀ (s : State) (first last : Reg) (n : Nat), Memory.wf s.mem = true → 0 < first.val →
    (¬first < last → exec (.pushm first last) s = .refused .registerOrder ∧
      exec (.popm first last) s = .refused .registerOrder) ∧
    (first < last → n = last.val - first.val + 1 →
      ((∀ k < n, s.Writable (s.reg 0 - 4 * BitVec.ofNat 32 (k + 1)) 4) → Completes (.pushm first last) s fun t =>
        t.reg 0 = s.reg 0 - 4 * BitVec.ofNat 32 n ∧ t.pc = s.after 2 ∧
        (∀ r, first ≤ r → r ≤ last →
          t.peek (s.reg 0 - 4 * BitVec.ofNat 32 (last.val - r.val + 1)) .l = s.reg r) ∧
        FrameStore [0] (s.reg 0 - 4 * BitVec.ofNat 32 n) (4 * n) s t) ∧
      ((∀ k < n, s.Readable (s.reg 0 + 4 * BitVec.ofNat 32 k) 4) → Completes (.popm first last) s fun t =>
        t.reg 0 = s.reg 0 + 4 * BitVec.ofNat 32 n ∧ t.pc = s.after 2 ∧
        (∀ r, first ≤ r → r ≤ last → t.reg r = s.peek (s.reg 0 + 4 * BitVec.ofNat 32 (r.val - first.val)) .l) ∧
        (∀ r, r ≠ 0 → (r < first ∨ last < r) → t.reg r = s.reg r) ∧ t.otherSp = s.otherSp ∧ t.psw = s.psw ∧
        SameControl s t ∧ t.fpsw = s.fpsw ∧ t.acc = s.acc ∧ SameMemory s t))

/-- POPM after a PUSHM of the same range that stored it, with any other work on those registers between them, restores
them and the stack pointer (R386, R389). -/
def Obligations.PopmRestoresWhatPushmSaved : Prop :=
  ∀ (s t : State) (first last : Reg) (vs : Reg → Word), Memory.wf s.mem = true → 0 < first.val → first < last →
    (∀ k < last.val - first.val + 1, s.Writable (s.reg 0 - 4 * BitVec.ofNat 32 (k + 1)) 4) →
    exec (.pushm first last) s = .next t →
    ∀ u, u = (regRange first last).foldl (fun x r => x.setReg r (vs r)) t →
      (∀ k < (regRange first last).length, u.Readable (u.reg 0 + 4 * BitVec.ofNat 32 k) 4) →
      Completes (.popm first last) u fun w => ∀ r, w.reg r = s.reg r

/-! ### Branches -/

/-- The truth of the 14 condition codes, and what ten of them mean after a CMP: the signed and unsigned comparisons of
src2 with src (R440). -/
def Obligations.ConditionsAfterCompare : Prop :=
  (∀ p : Psw,
    (p.holds .eq = true ↔ p.z = true) ∧ (p.holds .ne = true ↔ p.z = false) ∧
    (p.holds .geu = true ↔ p.c = true) ∧ (p.holds .ltu = true ↔ p.c = false) ∧
    (p.holds .gtu = true ↔ p.c = true ∧ p.z = false) ∧ (p.holds .leu = true ↔ p.c = false ∨ p.z = true) ∧
    (p.holds .pz = true ↔ p.s = false) ∧ (p.holds .n = true ↔ p.s = true) ∧
    (p.holds .ge = true ↔ p.s = p.o) ∧ (p.holds .lt = true ↔ p.s ≠ p.o) ∧
    (p.holds .gt = true ↔ p.s = p.o ∧ p.z = false) ∧ (p.holds .le = true ↔ p.s ≠ p.o ∨ p.z = true) ∧
    (p.holds .o = true ↔ p.o = true) ∧ (p.holds .no = true ↔ p.o = false)) ∧
  ∀ (s t : State) (src : RegOrMem) (rs2 : Reg) (v : Word), s.RmIs src v → exec (.cmpRm src rs2) s = .next t →
    ∀ a, a = s.reg rs2 →
      (t.psw.holds .eq = true ↔ a = v) ∧ (t.psw.holds .ne = true ↔ a ≠ v) ∧
      (t.psw.holds .geu = true ↔ v.toNat ≤ a.toNat) ∧ (t.psw.holds .ltu = true ↔ a.toNat < v.toNat) ∧
      (t.psw.holds .gtu = true ↔ v.toNat < a.toNat) ∧ (t.psw.holds .leu = true ↔ a.toNat ≤ v.toNat) ∧
      (t.psw.holds .ge = true ↔ v.toInt ≤ a.toInt) ∧ (t.psw.holds .lt = true ↔ a.toInt < v.toInt) ∧
      (t.psw.holds .gt = true ↔ v.toInt < a.toInt) ∧ (t.psw.holds .le = true ↔ a.toInt ≤ v.toInt)

/-- Branches and jumps change only the PC: the distance counts from the branch itself, .S distances are 3 to 10, and
a BCnd whose condition is false goes on (R110, R132, R441, R442, R444). -/
def Obligations.BranchesChangeOnlyThePc : Prop :=
  ∀ (s : State) (c : EqNe) (cd : Cond) (f : BitVec 3) (d8 : BitVec 8) (d16 : BitVec 16) (d24 : BitVec 24) (rs : Reg),
    (∀ k : Nat, 3 ≤ k → k ≤ 10 → k % 8 = f.toNat →
      Completes (.bcndS c f) s (Jumped (if (c = .eq ↔ s.psw.z = true) then s.pc + BitVec.ofNat 32 k else s.pc + 1) s) ∧
      Completes (.braS f) s (Jumped (s.pc + BitVec.ofNat 32 k) s)) ∧
    Completes (.bcndB cd d8) s (Jumped (if s.psw.holds cd then s.pc + BitVec.ofInt 32 d8.toInt else s.pc + 2) s) ∧
    Completes (.bcndW c d16) s
      (Jumped (if (c = .eq ↔ s.psw.z = true) then s.pc + BitVec.ofInt 32 d16.toInt else s.pc + 3) s) ∧
    Completes (.braB d8) s (Jumped (s.pc + BitVec.ofInt 32 d8.toInt) s) ∧
    Completes (.braW d16) s (Jumped (s.pc + BitVec.ofInt 32 d16.toInt) s) ∧
    Completes (.braA d24) s (Jumped (s.pc + BitVec.ofInt 32 d24.toInt) s) ∧
    Completes (.braL rs) s (Jumped (s.pc + s.reg rs) s) ∧
    Completes (.jmp rs) s (Jumped (s.reg rs) s)

/-- BSR and JSR push the address of the next instruction and go to the target, which is read before the push (R443,
R445; for R0 the spec's decision D19). -/
def Obligations.CallsPushTheReturnAddress : Prop :=
  ∀ (s : State) (d16 : BitVec 16) (d24 : BitVec 24) (rs : Reg), Memory.wf s.mem = true →
    s.Writable (s.reg 0 - 4) 4 →
    Completes (.bsrW d16) s (Pushed .l (s.pc + 3) (s.pc + BitVec.ofInt 32 d16.toInt) s) ∧
    Completes (.bsrA d24) s (Pushed .l (s.pc + 4) (s.pc + BitVec.ofInt 32 d24.toInt) s) ∧
    Completes (.bsrL rs) s (Pushed .l (s.pc + 2) (s.pc + s.reg rs) s) ∧
    Completes (.jsr rs) s (Pushed .l (s.pc + 2) (s.reg rs) s)

/-- RTS and RTSD take the PC from the stack and release the frame, and RTSD (2) reloads its registers from the top of
the frame; a range that is reversed or does not fit is refused (R172, R446, R447, P2). -/
def Obligations.ReturnsReleaseTheFrame : Prop :=
  ∀ (s : State) (imm : BitVec 8) (first last : Reg) (n : Nat) (top : Word), top = s.reg 0 + 4 * imm.setWidth 32 →
    (s.Readable (s.reg 0) 4 → Completes .rts s fun t =>
      t.pc = s.peek (s.reg 0) .l ∧ t.reg 0 = s.reg 0 + 4 ∧ Frame [0] [] s t) ∧
    (s.Readable top 4 → Completes (.rtsd imm) s fun t =>
      t.pc = s.peek top .l ∧ t.reg 0 = top + 4 ∧ Frame [0] [] s t) ∧
    (0 < first.val → n = last.val - first.val + 1 →
      (last < first ∨ imm.toNat < n → exec (.rtsdRange imm first last) s = .refused .stackFrame) ∧
      (first ≤ last → n ≤ imm.toNat → (∀ k ≤ n, s.Readable (top - 4 * BitVec.ofNat 32 k) 4) →
        Completes (.rtsdRange imm first last) s fun t =>
          t.pc = s.peek top .l ∧ t.reg 0 = top + 4 ∧
          (∀ r, first ≤ r → r ≤ last →
            t.reg r = s.peek (top - 4 * BitVec.ofNat 32 (last.val - r.val + 1)) .l) ∧
          (∀ r, r ≠ 0 → (r < first ∨ last < r) → t.reg r = s.reg r) ∧ t.otherSp = s.otherSp ∧ t.psw = s.psw ∧
          SameControl s t ∧ t.fpsw = s.fpsw ∧ t.acc = s.acc ∧ SameMemory s t))

/-! ### Bits -/

/-- BSET, BCLR, BNOT and BMCnd of a register change one bit, BTST reads it into C and its complement into Z; a
register bit number is taken modulo 32, or modulo 8 for a bit of a byte of memory (R470 to R477). -/
def Obligations.BitsChangeAlone : Prop :=
  ∀ (s : State) (rs rd : Reg) (imm : BitVec 5) (cd : Cond) (k : Nat) (r : Reg)
    (d : Dsp) (imm3 : BitVec 3) (a : Word), Memory.wf s.mem = true →
    (k = (s.reg rs).toNat % 32 →
      Completes (.bsetImm imm rd) s (WroteBit rd imm.toNat true 2 s) ∧
      Completes (.bsetRR rs rd) s (WroteBit rd k true 3 s) ∧
      Completes (.bclrImm imm rd) s (WroteBit rd imm.toNat false 2 s) ∧
      Completes (.bclrRR rs rd) s (WroteBit rd k false 3 s) ∧
      Completes (.bnotImm imm rd) s (WroteBit rd imm.toNat (!(s.reg rd).getLsbD imm.toNat) 3 s) ∧
      Completes (.bnotRR rs rd) s (WroteBit rd k (!(s.reg rd).getLsbD k) 3 s) ∧
      Completes (.bmcndR cd imm rd) s (WroteBit rd imm.toNat (s.psw.holds cd) 3 s) ∧
      Completes (.btstImm imm rd) s (TestedBit ((s.reg rd).getLsbD imm.toNat) 2 s) ∧
      Completes (.btstRR rs rd) s (TestedBit ((s.reg rd).getLsbD k) 3 s)) ∧
    (k = (s.reg rs).toNat % 8 → a = s.ea r d .b → s.Readable a 1 →
      (s.Writable a 1 →
        Completes (.bsetImmMem imm3 r d) s (StoredBit a imm3.toNat true (2 + d.len) s) ∧
        Completes (.bsetRMem rs r d) s (StoredBit a k true (3 + d.len) s) ∧
        Completes (.bclrImmMem imm3 r d) s (StoredBit a imm3.toNat false (2 + d.len) s) ∧
        Completes (.bclrRMem rs r d) s (StoredBit a k false (3 + d.len) s) ∧
        Completes (.bnotImmMem imm3 r d) s (StoredBit a imm3.toNat (!(s.byteAt a).getLsbD imm3.toNat) (3 + d.len) s) ∧
        Completes (.bnotRMem rs r d) s (StoredBit a k (!(s.byteAt a).getLsbD k) (3 + d.len) s) ∧
        Completes (.bmcndMem cd imm3 r d) s (StoredBit a imm3.toNat (s.psw.holds cd) (3 + d.len) s)) ∧
      Completes (.btstImmMem imm3 r d) s (TestedBit ((s.byteAt a).getLsbD imm3.toNat) (2 + d.len) s) ∧
      Completes (.btstRMem rs r d) s (TestedBit ((s.byteAt a).getLsbD k) (3 + d.len) s))

/-! ### Strings and RMPA -/

/-- With R3 = 0 a string instruction or RMPA is ignored (R260, R500), and no RMPA is under way after it (the model's
mark, log entry 14). One iteration of SMOVF, SMOVB, SMOVU and SSTR stores one element, moves the pointers and the count,
and leaves the PC at the instruction until the last one; a move that would overwrite bytes it has still to read is
refused (R500 to R507, P3). One iteration is one step (the model's form, log entry 15). -/
def Obligations.StringMovesGoElementByElement : Prop :=
  ∀ (s : State) (sz : Size) (n : Word), Memory.wf s.mem = true →
    (s.reg 3 = 0 → ∀ i ∈ [Instr.scmpu, .smovb, .smovf, .smovu, .sstr sz, .suntil sz, .swhile sz],
      Completes i s (Jumped (s.pc + 2) s)) ∧
    (s.reg 3 = 0 → Completes (.rmpa sz) s (Jumped (s.pc + 2) (s.markRmpa none))) ∧
    (s.reg 3 ≠ 0 → n = BitVec.ofNat 32 sz.bytes →
    (0 < (s.reg 1 - s.reg 2).toNat → (s.reg 1 - s.reg 2).toNat < (s.reg 3).toNat →
      exec .smovf s = .refused .stringOverlap ∧ exec .smovu s = .refused .stringOverlap) ∧
    (0 < (s.reg 2 - s.reg 1).toNat → (s.reg 2 - s.reg 1).toNat < (s.reg 3).toNat →
      exec .smovb s = .refused .stringOverlap) ∧
    (s.Readable (s.reg 2) 1 → s.Writable (s.reg 1) 1 →
      (s.reg 1 = s.reg 2 ∨ (s.reg 3).toNat ≤ (s.reg 1 - s.reg 2).toNat →
        (Completes .smovf s fun t => t.byteAt (s.reg 1) = s.byteAt (s.reg 2) ∧ t.reg 1 = s.reg 1 + 1 ∧
          t.reg 2 = s.reg 2 + 1 ∧ t.reg 3 = s.reg 3 - 1 ∧ t.pc = (if s.reg 3 = 1 then s.pc + 2 else s.pc) ∧
          FrameStore [1, 2, 3] (s.reg 1) 1 s t) ∧
        (Completes .smovu s fun t => t.byteAt (s.reg 1) = s.byteAt (s.reg 2) ∧ t.reg 3 = s.reg 3 - 1 ∧
          (s.byteAt (s.reg 2) = 0 ∨ s.reg 3 = 1 → t.pc = s.pc + 2) ∧
          (s.byteAt (s.reg 2) ≠ 0 → s.reg 3 ≠ 1 →
            t.pc = s.pc ∧ t.reg 1 = s.reg 1 + 1 ∧ t.reg 2 = s.reg 2 + 1) ∧
          FrameStore [1, 2, 3] (s.reg 1) 1 s t)) ∧
      (s.reg 1 = s.reg 2 ∨ (s.reg 3).toNat ≤ (s.reg 2 - s.reg 1).toNat →
        Completes .smovb s fun t => t.byteAt (s.reg 1) = s.byteAt (s.reg 2) ∧ t.reg 1 = s.reg 1 - 1 ∧
          t.reg 2 = s.reg 2 - 1 ∧ t.reg 3 = s.reg 3 - 1 ∧ t.pc = (if s.reg 3 = 1 then s.pc + 2 else s.pc) ∧
          FrameStore [1, 2, 3] (s.reg 1) 1 s t)) ∧
    (s.Writable (s.reg 1) sz.bytes → Completes (.sstr sz) s fun t =>
      t.peek (s.reg 1) sz = sz.zeroExtend (s.reg 2) ∧ t.reg 1 = s.reg 1 + n ∧ t.reg 3 = s.reg 3 - 1 ∧
      t.pc = (if s.reg 3 = 1 then s.pc + 2 else s.pc) ∧ FrameStore [1, 3] (s.reg 1) sz.bytes s t))

/-- One iteration of SCMPU, SUNTIL and SWHILE compares one element: C is no borrow, Z equality; the end condition or
the count ends the instruction (R503, R508, R509; log entry 15). -/
def Obligations.StringSearchesCompareElementByElement : Prop :=
  ∀ (s : State) (sz : Size) (n v : Word), s.reg 3 ≠ 0 → n = BitVec.ofNat 32 sz.bytes → v = s.peek (s.reg 1) sz →
    (s.Readable (s.reg 1) 1 → s.Readable (s.reg 2) 1 → ∀ a b, a = s.byteAt (s.reg 1) → b = s.byteAt (s.reg 2) →
      Completes .scmpu s fun t => (t.psw.c = true ↔ b.toNat ≤ a.toNat) ∧ (t.psw.z = true ↔ a = b) ∧
        t.reg 3 = s.reg 3 - 1 ∧ (a ≠ b ∨ a = 0 ∨ s.reg 3 = 1 → t.pc = s.pc + 2) ∧
        (a = b → a ≠ 0 → s.reg 3 ≠ 1 → t.pc = s.pc ∧ t.reg 1 = s.reg 1 + 1 ∧ t.reg 2 = s.reg 2 + 1) ∧
        Frame [1, 2, 3] [.c, .z] s t) ∧
    (s.Readable (s.reg 1) sz.bytes →
      (Completes (.suntil sz) s fun t => (t.psw.c = true ↔ (s.reg 2).toNat ≤ v.toNat) ∧
        (t.psw.z = true ↔ v = s.reg 2) ∧ t.reg 1 = s.reg 1 + n ∧ t.reg 3 = s.reg 3 - 1 ∧
        t.pc = (if v = s.reg 2 ∨ s.reg 3 = 1 then s.pc + 2 else s.pc) ∧ Frame [1, 3] [.c, .z] s t) ∧
      (Completes (.swhile sz) s fun t => (t.psw.c = true ↔ (s.reg 2).toNat ≤ v.toNat) ∧
        (t.psw.z = true ↔ v = s.reg 2) ∧ t.reg 1 = s.reg 1 + n ∧ t.reg 3 = s.reg 3 - 1 ∧
        t.pc = (if v ≠ s.reg 2 ∨ s.reg 3 = 1 then s.pc + 2 else s.pc) ∧ Frame [1, 3] [.c, .z] s t))

/-- One iteration of RMPA adds one exact product to the 80-bit sum in R6:R5:R4; the last one sets S and O and leaves
R1, R2 and ACC free (R260; log entry 15). A start with a count above 00010000h, or with an R6 that is not the sign of
R5:R4, is refused (P4); an RMPA under way goes on from whatever the registers hold (R501, P6). The mark of an RMPA under
way is the model's (log entry 14). -/
def Obligations.RmpaAccumulatesExactProducts : Prop :=
  ∀ (s : State) (sz : Size) (n : Word), s.reg 3 ≠ 0 → n = BitVec.ofNat 32 sz.bytes →
    (s.rmpa.running ≠ some s.pc →
      (0x10000 < (s.reg 3).toNat ∨ (s.reg 6).toInt ≠ (if (s.reg 5).toInt < 0 then -1 else 0)) →
      exec (.rmpa sz) s = .refused .rmpaOperands) ∧
    (s.rmpa.running = some s.pc ∨
        ((s.reg 3).toNat ≤ 0x10000 ∧ (s.reg 6).toInt = (if (s.reg 5).toInt < 0 then -1 else 0)) →
      s.Readable (s.reg 1) sz.bytes → s.Readable (s.reg 2) sz.bytes → ∀ sum, sum = s.rmpaSum + BitVec.ofInt 80
        ((sz.signExtend (s.peek (s.reg 1) sz)).toInt * (sz.signExtend (s.peek (s.reg 2) sz)).toInt) →
      Completes (.rmpa sz) s fun t => t.rmpaSum = sum ∧ (t.reg 6).toInt = sum.toInt / 2 ^ 64 ∧
        t.reg 3 = s.reg 3 - 1 ∧ FrameAcc [1, 2, 3, 4, 5, 6] [.s, .o] { s with rmpa := t.rmpa } t ∧
        t.rmpa.suspended = s.rmpa.suspended ∧
        (s.reg 3 ≠ 1 → t.reg 1 = s.reg 1 + n ∧ t.reg 2 = s.reg 2 + n ∧ t.pc = s.pc ∧ t.psw = s.psw ∧
          t.acc = s.acc ∧ t.rmpa.running = some s.pc) ∧
        (s.reg 3 = 1 → t.pc = s.pc + 2 ∧ (t.psw.s = true ↔ sum.toInt < 0) ∧
          (t.psw.o = true ↔ 2 ^ 63 - 1 < sum.toInt ∨ sum.toInt < -2 ^ 63) ∧ t.rmpa.running = none))

/-- An RMPA that an exception suspends is not under way in the handler, whose own RMPA is a start. Every later RTE or
RTFI to its address goes on with it, in whatever order and from whatever frame, until a reset, and it is then not
refused, whatever the registers hold; a return to any other address leaves a start a start (R501, R616, P6). The mark,
and that it outlasts the return, are the model's choice (log entry 14). -/
def Obligations.SuspendedRmpaResumes : Prop :=
  (∀ (s t : State) (savedPc : Word), s.rmpa.running = some savedPc →
    (∃ e, s.enter e savedPc = .next t) ∨ (savedPc = s.pc ∧ ∃ level, t = s.enterFast level) →
      t.rmpa.running = none ∧ savedPc ∈ t.rmpa.suspended) ∧
  (∀ s t : State, s.input.reset = false → step s = .next t → ∀ a ∈ s.rmpa.suspended, a ∈ t.rmpa.suspended) ∧
  (∀ s : State, s.psw.pm = false →
    (s.Readable (s.reg 0) 4 → s.Readable (s.reg 0 + 4) 4 → ∀ a, a = s.peek (s.reg 0) .l →
      Completes .rte s fun t => t.pc = a ∧ t.rmpa.running = if a ∈ s.rmpa.suspended then some a else none) ∧
    (Completes .rtfi s fun t =>
      t.pc = s.bpc ∧ t.rmpa.running = if s.bpc ∈ s.rmpa.suspended then some s.bpc else none)) ∧
  ∀ (s : State) (sz : Size) (why : Refusal), s.rmpa.running = some s.pc → exec (.rmpa sz) s ≠ .refused why

/-- SMOVF, run to its end, copies R3 bytes from R2 to R1, whatever the two ranges' order in memory, and changes no
byte outside the destination (R505). One iteration is one step (the model's form, log entry 15). -/
def Obligations.SmovfCopiesTheWholeString : Prop :=
  ∀ (s : State) (n : Nat), s.RunsAlone 0x7F 0x8F → n = (s.reg 3).toNat → 0 < n →
    (s.reg 1 = s.reg 2 ∨ n ≤ (s.reg 1 - s.reg 2).toNat) →
    (∀ k < n, s.reg 1 + BitVec.ofNat 32 k ≠ s.pc ∧ s.reg 1 + BitVec.ofNat 32 k ≠ s.pc + 1) →
    Reaches (run n s) fun t =>
      (∀ k < n, t.byteAt (s.reg 1 + BitVec.ofNat 32 k) = s.byteAt (s.reg 2 + BitVec.ofNat 32 k)) ∧
      SameMemoryBut (s.reg 1) n s t ∧ t.reg 1 = s.reg 1 + s.reg 3 ∧ t.reg 2 = s.reg 2 + s.reg 3 ∧ t.reg 3 = 0 ∧
      t.pc = s.pc + 2 ∧ t.psw = s.psw

/-- RMPA, run to its end, adds the exact dot product of two arrays to the 80-bit sum, with S and O of the result
(R260): from a start whose operands are admitted (P4), and from any iteration of one under way (log entry 14). One
iteration is one step (the model's form, log entry 15). -/
def Obligations.RmpaComputesTheDotProduct : Prop :=
  ∀ (s : State) (sz : Size) (n : Nat) (sum : BitVec 80), s.RunsAlone 0x7F (0b100011#6 ++ sz.bits) →
    n = (s.reg 3).toNat → 0 < n →
    (s.rmpa.running = some s.pc ∨
      (n ≤ 0x10000 ∧ (s.reg 6).toInt = (if (s.reg 5).toInt < 0 then -1 else 0))) →
    sum = s.rmpaSum + BitVec.ofInt 80 (((List.range n).map fun k =>
      (sz.signExtend (s.peek (s.reg 1 + BitVec.ofNat 32 (k * sz.bytes)) sz)).toInt *
        (sz.signExtend (s.peek (s.reg 2 + BitVec.ofNat 32 (k * sz.bytes)) sz)).toInt).sum) →
    Reaches (run n s) fun t =>
      t.rmpaSum = sum ∧ (t.reg 6).toInt = sum.toInt / 2 ^ 64 ∧ t.reg 3 = 0 ∧ t.pc = s.pc + 2 ∧
      (t.psw.s = true ↔ sum.toInt < 0) ∧ (t.psw.o = true ↔ 2 ^ 63 - 1 < sum.toInt ∨ sum.toInt < -2 ^ 63) ∧
      t.psw.c = s.psw.c ∧ t.psw.z = s.psw.z ∧ SameMemory s t

/-! ### System -/

/-- SETPSW and CLRPSW change one bit, I and U not in user mode (R34, R531, R536); MVTIPL changes IPL only, in supervisor
mode, and is privileged (R530, R544). The level with the narrow IPL is the model's (log entry 8); that a fault inside
the entry is stuck is the spec's decision D14 (S1, log entry 12); the mark of an RMPA under way is the model's (log
entry 14). -/
def Obligations.PswBitsAreSetAndCleared : Prop :=
  ∀ (s : State) (b : PswBit) (imm : BitVec 4), Memory.wf s.mem = true →
    (∀ v i, (v = true ∧ i = Instr.setpsw b) ∨ (v = false ∧ i = Instr.clrpsw b) → Completes i s fun t =>
      t.psw.bit b = (if s.psw.pm = true ∧ (b = .i ∨ b = .u) then s.psw.bit b else v) ∧ SamePsw [b] s t ∧
      t.pc = s.after 2 ∧ t.regs = s.regs ∧ t.isp = s.isp ∧ t.usp = s.usp ∧ t.fpsw = s.fpsw ∧ t.acc = s.acc ∧
      SameControl s t ∧ SameMemory s t) ∧
    (s.product.hasMvtipl = true →
      (s.psw.pm = false → Completes (.mvtipl imm) s fun t =>
        t.psw = { s.psw with ipl := maskLevel s.product.ipl3 imm } ∧ t.pc = s.after 3 ∧ t.regs = s.regs ∧
        t.isp = s.isp ∧ t.usp = s.usp ∧ t.fpsw = s.fpsw ∧ t.acc = s.acc ∧ SameControl s t ∧ SameMemory s t) ∧
      (s.psw.pm = true → EntersAt (exec (.mvtipl imm) s) 0xFFFFFFD0 s.psw.ipl s.pc s))

/-- MVTC and POPC to PSW write C, Z, S, O in both modes, I, U and IPL in supervisor mode only, and never PM; reserved
bits stay 0 (the spec's decision D3); R0 then names the stack pointer the new U selects (R33). -/
def Obligations.PswWritesObeyTheMode : Prop :=
  ∀ (s : State) (rs : Reg) (imm : Simm) (v : Word) (i : Instr),
    (v = s.reg rs ∧ i = .mvtcR rs .psw) ∨ (v = imm.value ∧ i = .mvtcImm imm .psw) ∨
      (v = s.peek (s.reg 0) .l ∧ i = .popc .psw ∧ s.Readable (s.reg 0) 4) →
    Completes i s fun t =>
      t.psw.c = v.getLsbD 0 ∧ t.psw.z = v.getLsbD 1 ∧ t.psw.s = v.getLsbD 2 ∧ t.psw.o = v.getLsbD 3 ∧
      t.psw.pm = s.psw.pm ∧
      (s.psw.pm = false → t.psw.i = v.getLsbD 16 ∧ t.psw.u = v.getLsbD 17 ∧
        t.psw.ipl.toNat = v.toNat / 2 ^ 24 % (if s.product.ipl3 then 8 else 16)) ∧
      (s.psw.pm = true → t.psw.i = s.psw.i ∧ t.psw.u = s.psw.u ∧ t.psw.ipl = s.psw.ipl) ∧
      (∀ j < 32, j ∉ [0, 1, 2, 3, 16, 17, 20, 24, 25, 26, 27] → t.psw.toWord.getLsbD j = false) ∧
      t.reg 0 = (if t.psw.u then t.usp else t.isp)

/-- MVTC writes control registers as R541 has it (USP, FPSW and the PSW flags in both modes, the others in supervisor
mode only) and nothing else; MVFC reads any of them in both modes (R540 to R542). In FPSW,
RM, DN, the enable bits and the sticky flags take what is written, a cause flag is cleared by 0 and kept by 1,
reserved bits stay 0 (R42, R46, D3). -/
def Obligations.ControlRegistersMove : Prop :=
  ∀ (s : State) (rs rd : Reg) (imm : Simm) (cr : CReg),
    (cr ≠ .pc →
      Completes (.mvtcR rs cr) s (CtrlWritten cr (s.reg rs) 3 s) ∧
      Completes (.mvtcImm imm cr) s (CtrlWritten cr imm.value (3 + imm.len) s)) ∧
    (Completes (.mvfc cr rd) s (Wrote rd
      (match cr with
        | .psw => s.psw.toWord
        | .pc => s.pc
        | .usp => s.usp
        | .fpsw => if s.product.hasFpu then s.fpsw.toWord else 0
        | .bpsw => s.bpsw.toWord
        | .bpc => s.bpc
        | .isp => s.isp
        | .fintv => s.fintv
        | .intb => s.intb) [] 3 s)) ∧
    (∀ v, v = s.reg rs → s.product.hasFpu = true →
      Completes (.mvtcR rs .fpsw) s fun t => ∀ j < 31, t.fpsw.toWord.getLsbD j =
        if j ∈ [0, 1, 8, 10, 11, 12, 13, 14, 26, 27, 28, 29, 30] then v.getLsbD j
        else if j ∈ [2, 3, 4, 5, 6, 7] then s.fpsw.toWord.getLsbD j && v.getLsbD j else false)

/-! ### DSP -/

/-- MULHI, MULLO, MACHI and MACLO: the signed product of two halves at b16 of ACC, added modulo 2^64 or alone; no
flag changes (R570 to R574). MVFACHI, MVFACMI, MVTACHI and MVTACLO move 32 bits between a register and their part of
ACC (R575 to R578). -/
def Obligations.AccumulatorProductsAndParts : Prop :=
  ∀ (s : State) (rs rs2 r : Reg) (hi lo : Int),
    hi = (s.reg rs).toInt / 2 ^ 16 * ((s.reg rs2).toInt / 2 ^ 16) →
    lo = ((s.reg rs).setWidth 16).toInt * ((s.reg rs2).setWidth 16).toInt →
    (Completes (.mulhi rs rs2) s fun t => t.acc.toInt = hi * 2 ^ 16 ∧ t.pc = s.after 3 ∧ FrameAcc [] [] s t) ∧
    (Completes (.mullo rs rs2) s fun t => t.acc.toInt = lo * 2 ^ 16 ∧ t.pc = s.after 3 ∧ FrameAcc [] [] s t) ∧
    (Completes (.machi rs rs2) s fun t =>
      t.acc = s.acc + BitVec.ofInt 64 (hi * 2 ^ 16) ∧ t.pc = s.after 3 ∧ FrameAcc [] [] s t) ∧
    (Completes (.maclo rs rs2) s fun t =>
      t.acc = s.acc + BitVec.ofInt 64 (lo * 2 ^ 16) ∧ t.pc = s.after 3 ∧ FrameAcc [] [] s t) ∧
    (Completes (.mvfachi r) s fun t => ∃ v : Word, v.toNat = s.acc.toNat / 2 ^ 32 ∧ Wrote r v [] 3 s t) ∧
    (Completes (.mvfacmi r) s fun t => ∃ v : Word, v.toNat = s.acc.toNat / 2 ^ 16 % 2 ^ 32 ∧ Wrote r v [] 3 s t) ∧
    (Completes (.mvtachi r) s fun t => t.acc.toNat = (s.reg r).toNat * 2 ^ 32 + s.acc.toNat % 2 ^ 32 ∧
      t.pc = s.after 3 ∧ FrameAcc [] [] s t) ∧
    (Completes (.mvtaclo r) s fun t => t.acc.toNat = s.acc.toNat / 2 ^ 32 * 2 ^ 32 + (s.reg r).toNat ∧
      t.pc = s.after 3 ∧ FrameAcc [] [] s t)

/-- RACW shifts ACC left by 1 or 2 within 64 bits, adds half of bit 32, and clears the low half or saturates to the
16-bit limits at b47 to b32; the sum does not wrap (R579; the last is the spec's decision D21). -/
def Obligations.RacwRoundsAndSaturates : Prop :=
  ∀ (s : State) (imm : BitVec 1) (x : Int), x = (s.acc <<< (imm.toNat + 1)).toInt + 2 ^ 31 →
    Completes (.racw imm) s fun t =>
      (x ≤ 0x7FFF * 2 ^ 32 → -0x8000 * 2 ^ 32 ≤ x → t.acc.toInt = x / 2 ^ 32 * 2 ^ 32) ∧
      (0x7FFF * 2 ^ 32 < x → t.acc.toInt = 0x7FFF * 2 ^ 32) ∧ (x < -0x8000 * 2 ^ 32 → t.acc.toInt = -0x8000 * 2 ^ 32) ∧
      t.pc = s.after 3 ∧ FrameAcc [] [] s t
end

