-- ==== Sys2Proof/Laws/Decode.lean ====
section
/-! SUPPORT. What more bytes do to decoding: a decoder that has decided does not change its mind, so the bytes of an
instruction decode one at a time (R121). -/

namespace Sys2Proof

/-- The result with more bytes after the instruction. -/
def Decoded.more (d : Decoded) (x : List Byte) : Decoded :=
  match d with
  | .instr i r => .instr i (r ++ x)
  | .short => .short
  | .undefined w => .undefined w

/-- A decoder that decides on some bytes decides alike when more follow. -/
def Grows (f : List Byte → Decoded) : Prop := ∀ r x, f r ≠ .short → f (r ++ x) = (f r).more x

theorem grows_instr (i : Instr) : Grows fun r => .instr i r := fun _ _ _ => rfl
theorem grows_undefined (w : Reject) : Grows fun _ => .undefined w := fun _ _ _ => rfl
theorem grows_take1 {k : Byte → List Byte → Decoded} (h : ∀ b, Grows (k b)) : Grows fun r => take1 r k := by
  intro r x hs
  cases r with
  | nil => exact absurd rfl hs
  | cons b r => exact h b r x hs
theorem grows_take16 {k : BitVec 16 → List Byte → Decoded} (h : ∀ v, Grows (k v)) : Grows fun r => take16 r k := by
  intro r x hs
  match r, hs with
  | [], hs => exact absurd rfl hs
  | [_], hs => exact absurd rfl hs
  | b0 :: b1 :: r, hs => exact h _ r x hs
theorem grows_take24 {k : BitVec 24 → List Byte → Decoded} (h : ∀ v, Grows (k v)) : Grows fun r => take24 r k := by
  intro r x hs
  match r, hs with
  | [], hs => exact absurd rfl hs
  | [_], hs => exact absurd rfl hs
  | [_, _], hs => exact absurd rfl hs
  | b0 :: b1 :: b2 :: r, hs => exact h _ r x hs
theorem grows_take32 {k : BitVec 32 → List Byte → Decoded} (h : ∀ v, Grows (k v)) : Grows fun r => take32 r k := by
  intro r x hs
  match r, hs with
  | [], hs => exact absurd rfl hs
  | [_], hs => exact absurd rfl hs
  | [_, _], hs => exact absurd rfl hs
  | [_, _, _], hs => exact absurd rfl hs
  | b0 :: b1 :: b2 :: b3 :: r, hs => exact h _ r x hs
theorem grows_ite {c : Prop} [Decidable c] {f g : List Byte → Decoded} (hf : Grows f) (hg : Grows g) :
    Grows fun r => if c then f r else g r := by
  split <;> assumption
theorem grows_takeDsp (ld : BitVec 2) {k : Dsp → List Byte → Decoded} (h : ∀ d, Grows (k d)) :
    Grows fun r => takeDsp ld r k := by
  unfold takeDsp
  generalize ld.toNat = n
  match n with
  | 0 => exact h _
  | 1 => exact grows_take1 fun _ => h _
  | 2 => exact grows_take16 fun _ => h _
  | _ + 3 => exact grows_undefined _

theorem grows_takeRm (ld : BitVec 2) (base : Reg) {k : RegOrMem → List Byte → Decoded} (h : ∀ d, Grows (k d)) :
    Grows fun r => takeRm ld base r k := by
  unfold takeRm
  exact grows_ite (h _) (grows_takeDsp ld fun d => h _)

theorem grows_takeImm (li : BitVec 2) {k : Simm → List Byte → Decoded} (h : ∀ v, Grows (k v)) :
    Grows fun r => takeImm li r k := by
  unfold takeImm
  generalize li.toNat = n
  match n with
  | 1 => exact grows_take1 fun _ => h _
  | 2 => exact grows_take16 fun _ => h _
  | 3 => exact grows_take24 fun _ => h _
  | 0 => exact grows_take32 fun _ => h _
  | _ + 4 => exact grows_take32 fun _ => h _

theorem grows_tail2 (k : Reg → Reg → Instr) : Grows (fun r => tail2 r k) := by
  intro r x
  unfold tail2
  try dsimp only
  repeat' first
    | exact grows_instr _ r x
    | exact grows_undefined _ r x
    | (refine grows_take1 (fun b => ?_) r x; clear r x; intro r x; try dsimp only)

theorem grows_tailRm (ld : BitVec 2) (k : RegOrMem → Reg → Instr) : Grows (fun r => tailRm ld r k) := by
  intro r x
  unfold tailRm
  try dsimp only
  repeat' first
    | exact grows_instr _ r x
    | exact grows_undefined _ r x
    | (refine grows_take1 (fun b => ?_) r x; clear r x; intro r x; try dsimp only)
    | (refine grows_takeRm _ _ (fun b => ?_) r x; clear r x; intro r x; try dsimp only)

theorem grows_tailRmPair (ld : BitVec 2) (k : RegOrMem → Reg → Instr) : Grows (fun r => tailRmPair ld r k) := by
  intro r x
  unfold tailRmPair
  try dsimp only
  repeat' first
    | exact grows_instr _ r x
    | exact grows_undefined _ r x
    | (refine grows_take1 (fun b => ?_) r x; clear r x; intro r x; try dsimp only)
    | (refine grows_takeRm _ _ (fun b => ?_) r x; clear r x; intro r x; try dsimp only)
    | (split <;> try dsimp only)

theorem grows_tailMem (ld : BitVec 2) (k : Reg → Dsp → Reg → Instr) : Grows (fun r => tailMem ld r k) := by
  intro r x
  unfold tailMem
  try dsimp only
  repeat' first
    | exact grows_instr _ r x
    | exact grows_undefined _ r x
    | (refine grows_take1 (fun b => ?_) r x; clear r x; intro r x; try dsimp only)
    | (refine grows_takeDsp _ (fun b => ?_) r x; clear r x; intro r x; try dsimp only)

theorem grows_tailMemPair (ld : BitVec 2) (k : Reg → Dsp → Reg → Instr) : Grows (fun r => tailMemPair ld r k) := by
  intro r x
  unfold tailMemPair
  try dsimp only
  repeat' first
    | exact grows_instr _ r x
    | exact grows_undefined _ r x
    | (refine grows_take1 (fun b => ?_) r x; clear r x; intro r x; try dsimp only)
    | (refine grows_takeDsp _ (fun b => ?_) r x; clear r x; intro r x; try dsimp only)
    | (split <;> try dsimp only)

theorem grows_tailRange (k : Reg → Reg → Instr) : Grows (fun r => tailRange r k) := by
  intro r x
  unfold tailRange
  try dsimp only
  repeat' first
    | exact grows_instr _ r x
    | exact grows_undefined _ r x
    | (refine grows_take1 (fun b => ?_) r x; clear r x; intro r x; try dsimp only)
    | (split <;> try dsimp only)

theorem grows_tailBit (ld : BitVec 2) (m : Reg → Reg → Dsp → Instr) (k : Reg → Reg → Instr) : Grows (fun r => tailBit ld r m k) := by
  intro r x
  unfold tailBit
  try dsimp only
  repeat' first
    | exact grows_instr _ r x
    | exact grows_undefined _ r x
    | (refine grows_take1 (fun b => ?_) r x; clear r x; intro r x; try dsimp only)
    | (refine grows_takeDsp _ (fun b => ?_) r x; clear r x; intro r x; try dsimp only)
    | (split <;> try dsimp only)

theorem grows_decode06 (p : Product) : Grows (decode06 p) := by
  intro r x
  unfold decode06
  try dsimp only
  repeat' first
    | exact grows_instr _ r x
    | exact grows_undefined _ r x
    | exact grows_tail2 _ r x
    | exact grows_tailRm _ _ r x
    | exact grows_tailRmPair _ _ r x
    | exact grows_tailMem _ _ r x
    | exact grows_tailMemPair _ _ r x
    | exact grows_tailRange _ r x
    | exact grows_tailBit _ _ _ r x
    | (refine grows_take1 (fun b => ?_) r x; clear r x; intro r x; try dsimp only)
    | (split <;> try dsimp only)

theorem grows_decode0 (p : Product) (b : Byte) : Grows (decode0 p b) := by
  intro r x
  unfold decode0
  try dsimp only
  repeat' first
    | exact grows_instr _ r x
    | exact grows_undefined _ r x
    | exact grows_decode06 p r x
    | (refine grows_take24 (fun b => ?_) r x; clear r x; intro r x; try dsimp only)
    | (split <;> try dsimp only)

theorem grows_decode2 (b : Byte) : Grows (decode2 b) := by
  intro r x
  unfold decode2
  try dsimp only
  repeat' first
    | exact grows_instr _ r x
    | exact grows_undefined _ r x
    | (refine grows_take1 (fun b => ?_) r x; clear r x; intro r x; try dsimp only)
    | (unfold field; try dsimp only)
    | (split <;> try dsimp only)

theorem grows_decodeRtsdRange  : Grows (decodeRtsdRange) := by
  intro r x
  unfold decodeRtsdRange
  try dsimp only
  repeat' first
    | exact grows_instr _ r x
    | exact grows_undefined _ r x
    | (refine grows_take1 (fun b => ?_) r x; clear r x; intro r x; try dsimp only)
    | (split <;> try dsimp only)

theorem grows_decode3 (b : Byte) : Grows (decode3 b) := by
  intro r x
  unfold decode3
  try dsimp only
  repeat' first
    | exact grows_instr _ r x
    | exact grows_undefined _ r x
    | exact grows_decodeRtsdRange r x
    | (refine grows_take1 (fun b => ?_) r x; clear r x; intro r x; try dsimp only)
    | (refine grows_take16 (fun b => ?_) r x; clear r x; intro r x; try dsimp only)
    | (unfold field; try dsimp only)
    | (split <;> try dsimp only)

theorem grows_decode45 (b : Byte) : Grows (decode45 b) := by
  intro r x
  unfold decode45
  try dsimp only
  repeat' first
    | exact grows_instr _ r x
    | exact grows_undefined _ r x
    | exact grows_tail2 _ r x
    | exact grows_tailRm _ _ r x
    | exact grows_tailRmPair _ _ r x
    | exact grows_tailMem _ _ r x
    | exact grows_tailMemPair _ _ r x
    | exact grows_tailRange _ r x
    | exact grows_tailBit _ _ _ r x
    | (split <;> try dsimp only)

theorem grows_decode6 (b : Byte) : Grows (decode6 b) := by
  intro r x
  unfold decode6
  try dsimp only
  repeat' first
    | exact grows_instr _ r x
    | exact grows_undefined _ r x
    | exact grows_tail2 _ r x
    | exact grows_tailRm _ _ r x
    | exact grows_tailRmPair _ _ r x
    | exact grows_tailMem _ _ r x
    | exact grows_tailMemPair _ _ r x
    | exact grows_tailRange _ r x
    | exact grows_tailBit _ _ _ r x
    | (refine grows_take1 (fun b => ?_) r x; clear r x; intro r x; try dsimp only)
    | (split <;> try dsimp only)

theorem grows_decode74 (p : Product) (b : Byte) : Grows (decode74 p b) := by
  intro r x
  unfold decode74
  try dsimp only
  repeat' first
    | exact grows_instr _ r x
    | exact grows_undefined _ r x
    | (refine grows_take1 (fun b => ?_) r x; clear r x; intro r x; try dsimp only)
    | (refine grows_takeImm _ (fun b => ?_) r x; clear r x; intro r x; try dsimp only)
    | (split <;> try dsimp only)

theorem grows_decode7E  : Grows (decode7E) := by
  intro r x
  unfold decode7E
  try dsimp only
  repeat' first
    | exact grows_instr _ r x
    | exact grows_undefined _ r x
    | (refine grows_take1 (fun b => ?_) r x; clear r x; intro r x; try dsimp only)
    | (unfold field; try dsimp only)
    | (split <;> try dsimp only)

theorem grows_decode7F  : Grows (decode7F) := by
  intro r x
  unfold decode7F
  try dsimp only
  repeat' first
    | exact grows_instr _ r x
    | exact grows_undefined _ r x
    | (refine grows_take1 (fun b => ?_) r x; clear r x; intro r x; try dsimp only)
    | (unfold field; try dsimp only)
    | (split <;> try dsimp only)

theorem grows_decode7 (p : Product) (b : Byte) : Grows (decode7 p b) := by
  intro r x
  unfold decode7
  try dsimp only
  repeat' first
    | exact grows_instr _ r x
    | exact grows_undefined _ r x
    | exact grows_decode74 p _ r x
    | exact grows_decode7E r x
    | exact grows_decode7F r x
    | (refine grows_take1 (fun b => ?_) r x; clear r x; intro r x; try dsimp only)
    | (refine grows_takeImm _ (fun b => ?_) r x; clear r x; intro r x; try dsimp only)
    | (split <;> try dsimp only)

theorem grows_decode8B (b : Byte) : Grows (decode8B b) := by
  intro r x
  unfold decode8B
  try dsimp only
  repeat' first
    | exact grows_instr _ r x
    | exact grows_undefined _ r x
    | (refine grows_take1 (fun b => ?_) r x; clear r x; intro r x; try dsimp only)
    | (split <;> try dsimp only)

theorem grows_decodeCE (b : Byte) : Grows (decodeCE b) := by
  intro r x
  unfold decodeCE
  try dsimp only
  repeat' first
    | exact grows_instr _ r x
    | exact grows_undefined _ r x
    | (refine grows_take1 (fun b => ?_) r x; clear r x; intro r x; try dsimp only)
    | (refine grows_takeDsp _ (fun b => ?_) r x; clear r x; intro r x; try dsimp only)
    | (unfold field; try dsimp only)
    | (split <;> try dsimp only)

theorem grows_decodeF8 (b : Byte) : Grows (decodeF8 b) := by
  intro r x
  unfold decodeF8
  try dsimp only
  repeat' first
    | exact grows_instr _ r x
    | exact grows_undefined _ r x
    | (refine grows_take1 (fun b => ?_) r x; clear r x; intro r x; try dsimp only)
    | (refine grows_takeDsp _ (fun b => ?_) r x; clear r x; intro r x; try dsimp only)
    | (refine grows_takeImm _ (fun b => ?_) r x; clear r x; intro r x; try dsimp only)
    | (unfold field; try dsimp only)
    | (split <;> try dsimp only)

theorem grows_decodeF0 (b : Byte) : Grows (decodeF0 b) := by
  intro r x
  unfold decodeF0
  try dsimp only
  repeat' first
    | exact grows_instr _ r x
    | exact grows_undefined _ r x
    | (refine grows_take1 (fun b => ?_) r x; clear r x; intro r x; try dsimp only)
    | (refine grows_takeDsp _ (fun b => ?_) r x; clear r x; intro r x; try dsimp only)
    | (unfold field; try dsimp only)
    | (split <;> try dsimp only)

theorem grows_decodeScc (z ld : BitVec 2) : Grows (decodeScc z ld) := by
  intro r x
  unfold decodeScc
  try dsimp only
  repeat' first
    | exact grows_instr _ r x
    | exact grows_undefined _ r x
    | (refine grows_take1 (fun b => ?_) r x; clear r x; intro r x; try dsimp only)
    | (refine grows_takeRm _ _ (fun b => ?_) r x; clear r x; intro r x; try dsimp only)
    | (unfold field; try dsimp only)
    | (split <;> try dsimp only)

theorem grows_decodeBm (i : BitVec 3) (ld : BitVec 2) : Grows (decodeBm i ld) := by
  intro r x
  unfold decodeBm
  try dsimp only
  repeat' first
    | exact grows_instr _ r x
    | exact grows_undefined _ r x
    | (refine grows_take1 (fun b => ?_) r x; clear r x; intro r x; try dsimp only)
    | (refine grows_takeDsp _ (fun b => ?_) r x; clear r x; intro r x; try dsimp only)
    | (unfold field; try dsimp only)
    | (split <;> try dsimp only)

theorem grows_fpu (p : Product) {k : List Byte → Decoded} (h : Grows k) : Grows fun r => fpu p (k r) := by
  unfold fpu
  exact grows_ite h (grows_undefined _)

theorem grows_decodeFC (p : Product) : Grows (decodeFC p) := by
  intro r x
  unfold decodeFC
  try dsimp only
  repeat' first
    | exact grows_instr _ r x
    | exact grows_undefined _ r x
    | exact grows_tail2 _ r x
    | exact grows_tailRm _ _ r x
    | exact grows_tailRmPair _ _ r x
    | exact grows_tailMem _ _ r x
    | exact grows_tailMemPair _ _ r x
    | exact grows_tailRange _ r x
    | exact grows_tailBit _ _ _ r x
    | exact grows_fpu p (grows_tailRm _ _) r x
    | exact grows_decodeScc _ _ r x
    | exact grows_decodeBm _ _ r x
    | (refine grows_take1 (fun b => ?_) r x; clear r x; intro r x; try dsimp only)
    | (split <;> try dsimp only)

theorem grows_decodeFD7 (p : Product) (b : Byte) : Grows (decodeFD7 p b) := by
  intro r x
  unfold decodeFD7
  try dsimp only
  repeat' first
    | exact grows_instr _ r x
    | exact grows_undefined _ r x
    | (refine grows_fpu p (k := fun r => take1 r _) ?_ r x; clear r x; intro r x; try dsimp only)
    | (refine grows_take1 (fun b => ?_) r x; clear r x; intro r x; try dsimp only)
    | (refine grows_take32 (fun b => ?_) r x; clear r x; intro r x; try dsimp only)
    | (refine grows_takeImm _ (fun b => ?_) r x; clear r x; intro r x; try dsimp only)
    | (unfold field; try dsimp only)
    | (split <;> try dsimp only)

theorem grows_decodeDsp (b : Byte) : Grows (decodeDsp b) := by
  intro r x
  unfold decodeDsp
  try dsimp only
  repeat' first
    | exact grows_instr _ r x
    | exact grows_undefined _ r x
    | exact grows_tail2 _ r x
    | exact grows_tailRm _ _ r x
    | exact grows_tailRmPair _ _ r x
    | exact grows_tailMem _ _ r x
    | exact grows_tailMemPair _ _ r x
    | exact grows_tailRange _ r x
    | exact grows_tailBit _ _ _ r x
    | (refine grows_take1 (fun b => ?_) r x; clear r x; intro r x; try dsimp only)
    | (split <;> try dsimp only)

theorem grows_decodeAuto (b : Byte) : Grows (decodeAuto b) := by
  intro r x
  unfold decodeAuto
  try dsimp only
  repeat' first
    | exact grows_instr _ r x
    | exact grows_undefined _ r x
    | exact grows_tail2 _ r x
    | exact grows_tailRm _ _ r x
    | exact grows_tailRmPair _ _ r x
    | exact grows_tailMem _ _ r x
    | exact grows_tailMemPair _ _ r x
    | exact grows_tailRange _ r x
    | exact grows_tailBit _ _ _ r x
    | (unfold field; try dsimp only)
    | (split <;> try dsimp only)

theorem grows_decodeFD6 (b : Byte) : Grows (decodeFD6 b) := by
  intro r x
  unfold decodeFD6
  try dsimp only
  repeat' first
    | exact grows_instr _ r x
    | exact grows_undefined _ r x
    | exact grows_tail2 _ r x
    | exact grows_tailRm _ _ r x
    | exact grows_tailRmPair _ _ r x
    | exact grows_tailMem _ _ r x
    | exact grows_tailMemPair _ _ r x
    | exact grows_tailRange _ r x
    | exact grows_tailBit _ _ _ r x
    | (refine grows_take1 (fun b => ?_) r x; clear r x; intro r x; try dsimp only)
    | (unfold field; try dsimp only)
    | (split <;> try dsimp only)

theorem grows_decodeFD (p : Product) : Grows (decodeFD p) := by
  intro r x
  unfold decodeFD
  try dsimp only
  repeat' first
    | exact grows_instr _ r x
    | exact grows_undefined _ r x
    | exact grows_decodeDsp _ r x
    | exact grows_decodeAuto _ r x
    | exact grows_decodeFD6 _ r x
    | exact grows_decodeFD7 p _ r x
    | (refine grows_take1 (fun b => ?_) r x; clear r x; intro r x; try dsimp only)
    | (unfold field; try dsimp only)
    | (split <;> try dsimp only)

theorem grows_decodeFE  : Grows (decodeFE) := by
  intro r x
  unfold decodeFE
  try dsimp only
  repeat' first
    | exact grows_instr _ r x
    | exact grows_undefined _ r x
    | (refine grows_take1 (fun b => ?_) r x; clear r x; intro r x; try dsimp only)
    | (unfold field; try dsimp only)
    | (split <;> try dsimp only)

theorem grows_decodeFF  : Grows (decodeFF) := by
  intro r x
  unfold decodeFF
  try dsimp only
  repeat' first
    | exact grows_instr _ r x
    | exact grows_undefined _ r x
    | (refine grows_take1 (fun b => ?_) r x; clear r x; intro r x; try dsimp only)
    | (split <;> try dsimp only)

theorem grows_decodeF (p : Product) (b : Byte) : Grows (decodeF p b) := by
  intro r x
  unfold decodeF
  try dsimp only
  repeat' first
    | exact grows_instr _ r x
    | exact grows_undefined _ r x
    | exact grows_decodeFC p r x
    | exact grows_decodeFD p r x
    | exact grows_decodeFE r x
    | exact grows_decodeFF r x
    | exact grows_decodeF0 _ r x
    | exact grows_decodeF8 _ r x
    | (split <;> try dsimp only)

/-- A decision on some bytes stands when more bytes follow. -/
theorem decode_append (p : Product) (bs x : List Byte) (h : decode p bs ≠ .short) :
    decode p (bs ++ x) = (decode p bs).more x := by
  cases bs with
  | nil => exact absurd rfl h
  | cons b r =>
    revert h
    rw [List.cons_append]
    simp only [decode]
    repeat' first
      | exact grows_instr _ r x
      | exact grows_undefined _ r x
      | exact grows_decode0 p b r x
      | exact grows_decode2 b r x
      | exact grows_decode3 b r x
      | exact grows_decode45 b r x
      | exact grows_decode6 b r x
      | exact grows_decode7 p b r x
      | exact grows_decode8B b r x
      | exact grows_decodeCE b r x
      | exact grows_decodeF p b r x
      | (split <;> try dsimp only)

/-- A prefix of bytes that decode to an instruction is too short to tell, or decodes to the same instruction. -/
theorem decode_prefix {p : Product} {bs x rest : List Byte} {i : Instr} (h : decode p (bs ++ x) = .instr i rest) :
    decode p bs = .short ∨ ∃ r, decode p bs = .instr i r ∧ rest = r ++ x := by
  by_cases hs : decode p bs = .short
  · exact .inl hs
  · rw [decode_append p bs x hs] at h
    cases hd : decode p bs with
    | short => exact .inl rfl
    | undefined w => simp [hd, Decoded.more] at h
    | instr j r =>
      simp only [hd, Decoded.more, Decoded.instr.injEq] at h
      exact .inr ⟨r, by rw [h.1], h.2.symm⟩

end Sys2Proof
end

