-- ==== Sys2Proof/Laws/Dispatch.lean ====
section
/-! SUPPORT. The meaning `exec` calls, one lemma per constructor, so that no proof unfolds its match. -/

namespace Sys2Proof.Machine

@[simp] theorem exec_absR (rd : Reg) (s : State) : exec (.absR rd) s = execAbsR rd s := rfl
@[simp] theorem exec_absRR (rs : Reg) (rd : Reg) (s : State) : exec (.absRR rs rd) s = execAbsRR rs rd s := rfl
@[simp] theorem exec_adcImm (imm : Simm) (rd : Reg) (s : State) :
    exec (.adcImm imm rd) s = execAdcImm imm rd s := rfl
@[simp] theorem exec_adcRR (rs : Reg) (rd : Reg) (s : State) : exec (.adcRR rs rd) s = execAdcRR rs rd s := rfl
@[simp] theorem exec_adcMem (rs : Reg) (d : Dsp) (rd : Reg) (s : State) :
    exec (.adcMem rs d rd) s = execAdcMem rs d rd s := rfl
@[simp] theorem exec_addUimm4 (imm : BitVec 4) (rd : Reg) (s : State) :
    exec (.addUimm4 imm rd) s = execAddUimm4 imm rd s := rfl
@[simp] theorem exec_addRm (src : RegOrMem) (rd : Reg) (s : State) :
    exec (.addRm src rd) s = execAddRm src rd s := rfl
@[simp] theorem exec_addMx (mx : Memex) (rs : Reg) (d : Dsp) (rd : Reg) (s : State) :
    exec (.addMx mx rs d rd) s = execAddMx mx rs d rd s := rfl
@[simp] theorem exec_addImm3 (imm : Simm) (rs2 : Reg) (rd : Reg) (s : State) :
    exec (.addImm3 imm rs2 rd) s = execAddImm3 imm rs2 rd s := rfl
@[simp] theorem exec_addRRR (rs : Reg) (rs2 : Reg) (rd : Reg) (s : State) :
    exec (.addRRR rs rs2 rd) s = execAddRRR rs rs2 rd s := rfl
@[simp] theorem exec_andUimm4 (imm : BitVec 4) (rd : Reg) (s : State) :
    exec (.andUimm4 imm rd) s = execAndUimm4 imm rd s := rfl
@[simp] theorem exec_andImm (imm : Simm) (rd : Reg) (s : State) :
    exec (.andImm imm rd) s = execAndImm imm rd s := rfl
@[simp] theorem exec_andRm (src : RegOrMem) (rd : Reg) (s : State) :
    exec (.andRm src rd) s = execAndRm src rd s := rfl
@[simp] theorem exec_andMx (mx : Memex) (rs : Reg) (d : Dsp) (rd : Reg) (s : State) :
    exec (.andMx mx rs d rd) s = execAndMx mx rs d rd s := rfl
@[simp] theorem exec_andRRR (rs : Reg) (rs2 : Reg) (rd : Reg) (s : State) :
    exec (.andRRR rs rs2 rd) s = execAndRRR rs rs2 rd s := rfl
@[simp] theorem exec_cmpUimm4 (imm : BitVec 4) (rs2 : Reg) (s : State) :
    exec (.cmpUimm4 imm rs2) s = execCmpUimm4 imm rs2 s := rfl
@[simp] theorem exec_cmpUimm8 (imm : BitVec 8) (rs2 : Reg) (s : State) :
    exec (.cmpUimm8 imm rs2) s = execCmpUimm8 imm rs2 s := rfl
@[simp] theorem exec_cmpImm (imm : Simm) (rs2 : Reg) (s : State) :
    exec (.cmpImm imm rs2) s = execCmpImm imm rs2 s := rfl
@[simp] theorem exec_cmpRm (src : RegOrMem) (rs2 : Reg) (s : State) :
    exec (.cmpRm src rs2) s = execCmpRm src rs2 s := rfl
@[simp] theorem exec_cmpMx (mx : Memex) (rs : Reg) (d : Dsp) (rs2 : Reg) (s : State) :
    exec (.cmpMx mx rs d rs2) s = execCmpMx mx rs d rs2 s := rfl
@[simp] theorem exec_divImm (imm : Simm) (rd : Reg) (s : State) :
    exec (.divImm imm rd) s = execDivImm imm rd s := rfl
@[simp] theorem exec_divRm (src : RegOrMem) (rd : Reg) (s : State) :
    exec (.divRm src rd) s = execDivRm src rd s := rfl
@[simp] theorem exec_divMx (mx : Memex) (rs : Reg) (d : Dsp) (rd : Reg) (s : State) :
    exec (.divMx mx rs d rd) s = execDivMx mx rs d rd s := rfl
@[simp] theorem exec_divuImm (imm : Simm) (rd : Reg) (s : State) :
    exec (.divuImm imm rd) s = execDivuImm imm rd s := rfl
@[simp] theorem exec_divuRm (src : RegOrMem) (rd : Reg) (s : State) :
    exec (.divuRm src rd) s = execDivuRm src rd s := rfl
@[simp] theorem exec_divuMx (mx : Memex) (rs : Reg) (d : Dsp) (rd : Reg) (s : State) :
    exec (.divuMx mx rs d rd) s = execDivuMx mx rs d rd s := rfl
@[simp] theorem exec_emulImm (imm : Simm) (rd : Reg) (s : State) :
    exec (.emulImm imm rd) s = execEmulImm imm rd s := rfl
@[simp] theorem exec_emulRm (src : RegOrMem) (rd : Reg) (s : State) :
    exec (.emulRm src rd) s = execEmulRm src rd s := rfl
@[simp] theorem exec_emulMx (mx : Memex) (rs : Reg) (d : Dsp) (rd : Reg) (s : State) :
    exec (.emulMx mx rs d rd) s = execEmulMx mx rs d rd s := rfl
@[simp] theorem exec_emuluImm (imm : Simm) (rd : Reg) (s : State) :
    exec (.emuluImm imm rd) s = execEmuluImm imm rd s := rfl
@[simp] theorem exec_emuluRm (src : RegOrMem) (rd : Reg) (s : State) :
    exec (.emuluRm src rd) s = execEmuluRm src rd s := rfl
@[simp] theorem exec_emuluMx (mx : Memex) (rs : Reg) (d : Dsp) (rd : Reg) (s : State) :
    exec (.emuluMx mx rs d rd) s = execEmuluMx mx rs d rd s := rfl
@[simp] theorem exec_maxImm (imm : Simm) (rd : Reg) (s : State) :
    exec (.maxImm imm rd) s = execMaxImm imm rd s := rfl
@[simp] theorem exec_maxRm (src : RegOrMem) (rd : Reg) (s : State) :
    exec (.maxRm src rd) s = execMaxRm src rd s := rfl
@[simp] theorem exec_maxMx (mx : Memex) (rs : Reg) (d : Dsp) (rd : Reg) (s : State) :
    exec (.maxMx mx rs d rd) s = execMaxMx mx rs d rd s := rfl
@[simp] theorem exec_minImm (imm : Simm) (rd : Reg) (s : State) :
    exec (.minImm imm rd) s = execMinImm imm rd s := rfl
@[simp] theorem exec_minRm (src : RegOrMem) (rd : Reg) (s : State) :
    exec (.minRm src rd) s = execMinRm src rd s := rfl
@[simp] theorem exec_minMx (mx : Memex) (rs : Reg) (d : Dsp) (rd : Reg) (s : State) :
    exec (.minMx mx rs d rd) s = execMinMx mx rs d rd s := rfl
@[simp] theorem exec_mulUimm4 (imm : BitVec 4) (rd : Reg) (s : State) :
    exec (.mulUimm4 imm rd) s = execMulUimm4 imm rd s := rfl
@[simp] theorem exec_mulImm (imm : Simm) (rd : Reg) (s : State) :
    exec (.mulImm imm rd) s = execMulImm imm rd s := rfl
@[simp] theorem exec_mulRm (src : RegOrMem) (rd : Reg) (s : State) :
    exec (.mulRm src rd) s = execMulRm src rd s := rfl
@[simp] theorem exec_mulMx (mx : Memex) (rs : Reg) (d : Dsp) (rd : Reg) (s : State) :
    exec (.mulMx mx rs d rd) s = execMulMx mx rs d rd s := rfl
@[simp] theorem exec_mulRRR (rs : Reg) (rs2 : Reg) (rd : Reg) (s : State) :
    exec (.mulRRR rs rs2 rd) s = execMulRRR rs rs2 rd s := rfl
@[simp] theorem exec_negR (rd : Reg) (s : State) : exec (.negR rd) s = execNegR rd s := rfl
@[simp] theorem exec_negRR (rs : Reg) (rd : Reg) (s : State) : exec (.negRR rs rd) s = execNegRR rs rd s := rfl
@[simp] theorem exec_nop (s : State) : exec .nop s = execNop s := rfl
@[simp] theorem exec_notR (rd : Reg) (s : State) : exec (.notR rd) s = execNotR rd s := rfl
@[simp] theorem exec_notRR (rs : Reg) (rd : Reg) (s : State) : exec (.notRR rs rd) s = execNotRR rs rd s := rfl
@[simp] theorem exec_orUimm4 (imm : BitVec 4) (rd : Reg) (s : State) :
    exec (.orUimm4 imm rd) s = execOrUimm4 imm rd s := rfl
@[simp] theorem exec_orImm (imm : Simm) (rd : Reg) (s : State) : exec (.orImm imm rd) s = execOrImm imm rd s := rfl
@[simp] theorem exec_orRm (src : RegOrMem) (rd : Reg) (s : State) : exec (.orRm src rd) s = execOrRm src rd s := rfl
@[simp] theorem exec_orMx (mx : Memex) (rs : Reg) (d : Dsp) (rd : Reg) (s : State) :
    exec (.orMx mx rs d rd) s = execOrMx mx rs d rd s := rfl
@[simp] theorem exec_orRRR (rs : Reg) (rs2 : Reg) (rd : Reg) (s : State) :
    exec (.orRRR rs rs2 rd) s = execOrRRR rs rs2 rd s := rfl
@[simp] theorem exec_rmpa (sz : Size) (s : State) : exec (.rmpa sz) s = execRmpa sz s := rfl
@[simp] theorem exec_rolc (rd : Reg) (s : State) : exec (.rolc rd) s = execRolc rd s := rfl
@[simp] theorem exec_rorc (rd : Reg) (s : State) : exec (.rorc rd) s = execRorc rd s := rfl
@[simp] theorem exec_rotlImm (imm : BitVec 5) (rd : Reg) (s : State) :
    exec (.rotlImm imm rd) s = execRotlImm imm rd s := rfl
@[simp] theorem exec_rotlRR (rs : Reg) (rd : Reg) (s : State) : exec (.rotlRR rs rd) s = execRotlRR rs rd s := rfl
@[simp] theorem exec_rotrImm (imm : BitVec 5) (rd : Reg) (s : State) :
    exec (.rotrImm imm rd) s = execRotrImm imm rd s := rfl
@[simp] theorem exec_rotrRR (rs : Reg) (rd : Reg) (s : State) : exec (.rotrRR rs rd) s = execRotrRR rs rd s := rfl
@[simp] theorem exec_sat (rd : Reg) (s : State) : exec (.sat rd) s = execSat rd s := rfl
@[simp] theorem exec_satr (s : State) : exec .satr s = execSatr s := rfl
@[simp] theorem exec_sbbRR (rs : Reg) (rd : Reg) (s : State) : exec (.sbbRR rs rd) s = execSbbRR rs rd s := rfl
@[simp] theorem exec_sbbMem (rs : Reg) (d : Dsp) (rd : Reg) (s : State) :
    exec (.sbbMem rs d rd) s = execSbbMem rs d rd s := rfl
@[simp] theorem exec_sharImm (imm : BitVec 5) (rd : Reg) (s : State) :
    exec (.sharImm imm rd) s = execSharImm imm rd s := rfl
@[simp] theorem exec_sharRR (rs : Reg) (rd : Reg) (s : State) : exec (.sharRR rs rd) s = execSharRR rs rd s := rfl
@[simp] theorem exec_sharImm3 (imm : BitVec 5) (rs2 : Reg) (rd : Reg) (s : State) :
    exec (.sharImm3 imm rs2 rd) s = execSharImm3 imm rs2 rd s := rfl
@[simp] theorem exec_shllImm (imm : BitVec 5) (rd : Reg) (s : State) :
    exec (.shllImm imm rd) s = execShllImm imm rd s := rfl
@[simp] theorem exec_shllRR (rs : Reg) (rd : Reg) (s : State) : exec (.shllRR rs rd) s = execShllRR rs rd s := rfl
@[simp] theorem exec_shllImm3 (imm : BitVec 5) (rs2 : Reg) (rd : Reg) (s : State) :
    exec (.shllImm3 imm rs2 rd) s = execShllImm3 imm rs2 rd s := rfl
@[simp] theorem exec_shlrImm (imm : BitVec 5) (rd : Reg) (s : State) :
    exec (.shlrImm imm rd) s = execShlrImm imm rd s := rfl
@[simp] theorem exec_shlrRR (rs : Reg) (rd : Reg) (s : State) : exec (.shlrRR rs rd) s = execShlrRR rs rd s := rfl
@[simp] theorem exec_shlrImm3 (imm : BitVec 5) (rs2 : Reg) (rd : Reg) (s : State) :
    exec (.shlrImm3 imm rs2 rd) s = execShlrImm3 imm rs2 rd s := rfl
@[simp] theorem exec_subUimm4 (imm : BitVec 4) (rd : Reg) (s : State) :
    exec (.subUimm4 imm rd) s = execSubUimm4 imm rd s := rfl
@[simp] theorem exec_subRm (src : RegOrMem) (rd : Reg) (s : State) :
    exec (.subRm src rd) s = execSubRm src rd s := rfl
@[simp] theorem exec_subMx (mx : Memex) (rs : Reg) (d : Dsp) (rd : Reg) (s : State) :
    exec (.subMx mx rs d rd) s = execSubMx mx rs d rd s := rfl
@[simp] theorem exec_subRRR (rs : Reg) (rs2 : Reg) (rd : Reg) (s : State) :
    exec (.subRRR rs rs2 rd) s = execSubRRR rs rs2 rd s := rfl
@[simp] theorem exec_tstImm (imm : Simm) (rs2 : Reg) (s : State) :
    exec (.tstImm imm rs2) s = execTstImm imm rs2 s := rfl
@[simp] theorem exec_tstRm (src : RegOrMem) (rs2 : Reg) (s : State) :
    exec (.tstRm src rs2) s = execTstRm src rs2 s := rfl
@[simp] theorem exec_tstMx (mx : Memex) (rs : Reg) (d : Dsp) (rs2 : Reg) (s : State) :
    exec (.tstMx mx rs d rs2) s = execTstMx mx rs d rs2 s := rfl
@[simp] theorem exec_xorImm (imm : Simm) (rd : Reg) (s : State) :
    exec (.xorImm imm rd) s = execXorImm imm rd s := rfl
@[simp] theorem exec_xorRm (src : RegOrMem) (rd : Reg) (s : State) :
    exec (.xorRm src rd) s = execXorRm src rd s := rfl
@[simp] theorem exec_xorMx (mx : Memex) (rs : Reg) (d : Dsp) (rd : Reg) (s : State) :
    exec (.xorMx mx rs d rd) s = execXorMx mx rs d rd s := rfl
@[simp] theorem exec_faddImm (imm : BitVec 32) (rd : Reg) (s : State) :
    exec (.faddImm imm rd) s = execFaddImm imm rd s := rfl
@[simp] theorem exec_faddRm (src : RegOrMem) (rd : Reg) (s : State) :
    exec (.faddRm src rd) s = execFaddRm src rd s := rfl
@[simp] theorem exec_fcmpImm (imm : BitVec 32) (rs2 : Reg) (s : State) :
    exec (.fcmpImm imm rs2) s = execFcmpImm imm rs2 s := rfl
@[simp] theorem exec_fcmpRm (src : RegOrMem) (rs2 : Reg) (s : State) :
    exec (.fcmpRm src rs2) s = execFcmpRm src rs2 s := rfl
@[simp] theorem exec_fdivImm (imm : BitVec 32) (rd : Reg) (s : State) :
    exec (.fdivImm imm rd) s = execFdivImm imm rd s := rfl
@[simp] theorem exec_fdivRm (src : RegOrMem) (rd : Reg) (s : State) :
    exec (.fdivRm src rd) s = execFdivRm src rd s := rfl
@[simp] theorem exec_fmulImm (imm : BitVec 32) (rd : Reg) (s : State) :
    exec (.fmulImm imm rd) s = execFmulImm imm rd s := rfl
@[simp] theorem exec_fmulRm (src : RegOrMem) (rd : Reg) (s : State) :
    exec (.fmulRm src rd) s = execFmulRm src rd s := rfl
@[simp] theorem exec_fsubImm (imm : BitVec 32) (rd : Reg) (s : State) :
    exec (.fsubImm imm rd) s = execFsubImm imm rd s := rfl
@[simp] theorem exec_fsubRm (src : RegOrMem) (rd : Reg) (s : State) :
    exec (.fsubRm src rd) s = execFsubRm src rd s := rfl
@[simp] theorem exec_ftoiRm (src : RegOrMem) (rd : Reg) (s : State) :
    exec (.ftoiRm src rd) s = execFtoiRm src rd s := rfl
@[simp] theorem exec_roundRm (src : RegOrMem) (rd : Reg) (s : State) :
    exec (.roundRm src rd) s = execRoundRm src rd s := rfl
@[simp] theorem exec_itofRm (src : RegOrMem) (rd : Reg) (s : State) :
    exec (.itofRm src rd) s = execItofRm src rd s := rfl
@[simp] theorem exec_itofMx (mx : Memex) (rs : Reg) (d : Dsp) (rd : Reg) (s : State) :
    exec (.itofMx mx rs d rd) s = execItofMx mx rs d rd s := rfl
@[simp] theorem exec_movStoreD5 (sz : Size) (rs : LowReg) (d : BitVec 5) (rd : LowReg) (s : State) :
    exec (.movStoreD5 sz rs d rd) s = execMovStoreD5 sz rs d rd s := rfl
@[simp] theorem exec_movLoadD5 (sz : Size) (d : BitVec 5) (rs : LowReg) (rd : LowReg) (s : State) :
    exec (.movLoadD5 sz d rs rd) s = execMovLoadD5 sz d rs rd s := rfl
@[simp] theorem exec_movUimm4 (imm : BitVec 4) (rd : Reg) (s : State) :
    exec (.movUimm4 imm rd) s = execMovUimm4 imm rd s := rfl
@[simp] theorem exec_movImmD5 (sz : Size) (imm : BitVec 8) (d : BitVec 5) (rd : LowReg) (s : State) :
    exec (.movImmD5 sz imm d rd) s = execMovImmD5 sz imm d rd s := rfl
@[simp] theorem exec_movUimm8 (imm : BitVec 8) (rd : Reg) (s : State) :
    exec (.movUimm8 imm rd) s = execMovUimm8 imm rd s := rfl
@[simp] theorem exec_movImm (imm : Simm) (rd : Reg) (s : State) :
    exec (.movImm imm rd) s = execMovImm imm rd s := rfl
@[simp] theorem exec_movRR (sz : Size) (rs : Reg) (rd : Reg) (s : State) :
    exec (.movRR sz rs rd) s = execMovRR sz rs rd s := rfl
@[simp] theorem exec_movImmMem (sz : Size) (imm : Simm) (rd : Reg) (d : Dsp) (s : State) :
    exec (.movImmMem sz imm rd d) s = execMovImmMem sz imm rd d s := rfl
@[simp] theorem exec_movLoad (sz : Size) (rs : Reg) (d : Dsp) (rd : Reg) (s : State) :
    exec (.movLoad sz rs d rd) s = execMovLoad sz rs d rd s := rfl
@[simp] theorem exec_movLoadIdx (sz : Size) (ri : Reg) (rb : Reg) (rd : Reg) (s : State) :
    exec (.movLoadIdx sz ri rb rd) s = execMovLoadIdx sz ri rb rd s := rfl
@[simp] theorem exec_movStore (sz : Size) (rs : Reg) (rd : Reg) (d : Dsp) (s : State) :
    exec (.movStore sz rs rd d) s = execMovStore sz rs rd d s := rfl
@[simp] theorem exec_movStoreIdx (sz : Size) (rs : Reg) (ri : Reg) (rb : Reg) (s : State) :
    exec (.movStoreIdx sz rs ri rb) s = execMovStoreIdx sz rs ri rb s := rfl
@[simp] theorem exec_movMemMem (sz : Size) (rs : Reg) (ds : Dsp) (rd : Reg) (dd : Dsp) (s : State) :
    exec (.movMemMem sz rs ds rd dd) s = execMovMemMem sz rs ds rd dd s := rfl
@[simp] theorem exec_movStoreAuto (mode : Auto) (sz : Size) (rs : Reg) (rd : Reg) (s : State) :
    exec (.movStoreAuto mode sz rs rd) s = execMovStoreAuto mode sz rs rd s := rfl
@[simp] theorem exec_movLoadAuto (mode : Auto) (sz : Size) (rs : Reg) (rd : Reg) (s : State) :
    exec (.movLoadAuto mode sz rs rd) s = execMovLoadAuto mode sz rs rd s := rfl
@[simp] theorem exec_movuLoadD5 (sz : MovuSize) (d : BitVec 5) (rs : LowReg) (rd : LowReg) (s : State) :
    exec (.movuLoadD5 sz d rs rd) s = execMovuLoadD5 sz d rs rd s := rfl
@[simp] theorem exec_movuRm (sz : MovuSize) (src : RegOrMem) (rd : Reg) (s : State) :
    exec (.movuRm sz src rd) s = execMovuRm sz src rd s := rfl
@[simp] theorem exec_movuLoadIdx (sz : MovuSize) (ri : Reg) (rb : Reg) (rd : Reg) (s : State) :
    exec (.movuLoadIdx sz ri rb rd) s = execMovuLoadIdx sz ri rb rd s := rfl
@[simp] theorem exec_movuLoadAuto (mode : Auto) (sz : MovuSize) (rs : Reg) (rd : Reg) (s : State) :
    exec (.movuLoadAuto mode sz rs rd) s = execMovuLoadAuto mode sz rs rd s := rfl
@[simp] theorem exec_pop (rd : Reg) (s : State) : exec (.pop rd) s = execPop rd s := rfl
@[simp] theorem exec_popc (cr : CReg) (s : State) : exec (.popc cr) s = execPopc cr s := rfl
@[simp] theorem exec_popm (rd : Reg) (rd2 : Reg) (s : State) : exec (.popm rd rd2) s = execPopm rd rd2 s := rfl
@[simp] theorem exec_pushR (sz : Size) (rs : Reg) (s : State) : exec (.pushR sz rs) s = execPushR sz rs s := rfl
@[simp] theorem exec_pushMem (sz : Size) (rs : Reg) (d : Dsp) (s : State) :
    exec (.pushMem sz rs d) s = execPushMem sz rs d s := rfl
@[simp] theorem exec_pushc (cr : CReg) (s : State) : exec (.pushc cr) s = execPushc cr s := rfl
@[simp] theorem exec_pushm (rs : Reg) (rs2 : Reg) (s : State) : exec (.pushm rs rs2) s = execPushm rs rs2 s := rfl
@[simp] theorem exec_revl (rs : Reg) (rd : Reg) (s : State) : exec (.revl rs rd) s = execRevl rs rd s := rfl
@[simp] theorem exec_revw (rs : Reg) (rd : Reg) (s : State) : exec (.revw rs rd) s = execRevw rs rd s := rfl
@[simp] theorem exec_sccnd (cd : Cond) (sz : Size) (dst : RegOrMem) (s : State) :
    exec (.sccnd cd sz dst) s = execSccnd cd sz dst s := rfl
@[simp] theorem exec_stnz (imm : Simm) (rd : Reg) (s : State) : exec (.stnz imm rd) s = execStnz imm rd s := rfl
@[simp] theorem exec_stz (imm : Simm) (rd : Reg) (s : State) : exec (.stz imm rd) s = execStz imm rd s := rfl
@[simp] theorem exec_xchgRm (src : RegOrMem) (rd : Reg) (s : State) :
    exec (.xchgRm src rd) s = execXchgRm src rd s := rfl
@[simp] theorem exec_xchgMx (mx : Memex) (rs : Reg) (d : Dsp) (rd : Reg) (s : State) :
    exec (.xchgMx mx rs d rd) s = execXchgMx mx rs d rd s := rfl
@[simp] theorem exec_bcndS (c : EqNe) (dist : BitVec 3) (s : State) :
    exec (.bcndS c dist) s = execBcndS c dist s := rfl
@[simp] theorem exec_bcndB (cd : Cond) (disp : BitVec 8) (s : State) :
    exec (.bcndB cd disp) s = execBcndB cd disp s := rfl
@[simp] theorem exec_bcndW (c : EqNe) (disp : BitVec 16) (s : State) :
    exec (.bcndW c disp) s = execBcndW c disp s := rfl
@[simp] theorem exec_braS (dist : BitVec 3) (s : State) : exec (.braS dist) s = execBraS dist s := rfl
@[simp] theorem exec_braB (disp : BitVec 8) (s : State) : exec (.braB disp) s = execBraB disp s := rfl
@[simp] theorem exec_braW (disp : BitVec 16) (s : State) : exec (.braW disp) s = execBraW disp s := rfl
@[simp] theorem exec_braA (disp : BitVec 24) (s : State) : exec (.braA disp) s = execBraA disp s := rfl
@[simp] theorem exec_braL (rs : Reg) (s : State) : exec (.braL rs) s = execBraL rs s := rfl
@[simp] theorem exec_bsrW (disp : BitVec 16) (s : State) : exec (.bsrW disp) s = execBsrW disp s := rfl
@[simp] theorem exec_bsrA (disp : BitVec 24) (s : State) : exec (.bsrA disp) s = execBsrA disp s := rfl
@[simp] theorem exec_bsrL (rs : Reg) (s : State) : exec (.bsrL rs) s = execBsrL rs s := rfl
@[simp] theorem exec_jmp (rs : Reg) (s : State) : exec (.jmp rs) s = execJmp rs s := rfl
@[simp] theorem exec_jsr (rs : Reg) (s : State) : exec (.jsr rs) s = execJsr rs s := rfl
@[simp] theorem exec_rts (s : State) : exec .rts s = execRts s := rfl
@[simp] theorem exec_rtsd (imm : BitVec 8) (s : State) : exec (.rtsd imm) s = execRtsd imm s := rfl
@[simp] theorem exec_rtsdRange (imm : BitVec 8) (rd : Reg) (rd2 : Reg) (s : State) :
    exec (.rtsdRange imm rd rd2) s = execRtsdRange imm rd rd2 s := rfl
@[simp] theorem exec_bclrImmMem (imm : BitVec 3) (rd : Reg) (d : Dsp) (s : State) :
    exec (.bclrImmMem imm rd d) s = execBclrImmMem imm rd d s := rfl
@[simp] theorem exec_bclrRMem (rs : Reg) (rd : Reg) (d : Dsp) (s : State) :
    exec (.bclrRMem rs rd d) s = execBclrRMem rs rd d s := rfl
@[simp] theorem exec_bclrImm (imm : BitVec 5) (rd : Reg) (s : State) :
    exec (.bclrImm imm rd) s = execBclrImm imm rd s := rfl
@[simp] theorem exec_bclrRR (rs : Reg) (rd : Reg) (s : State) : exec (.bclrRR rs rd) s = execBclrRR rs rd s := rfl
@[simp] theorem exec_bsetImmMem (imm : BitVec 3) (rd : Reg) (d : Dsp) (s : State) :
    exec (.bsetImmMem imm rd d) s = execBsetImmMem imm rd d s := rfl
@[simp] theorem exec_bsetRMem (rs : Reg) (rd : Reg) (d : Dsp) (s : State) :
    exec (.bsetRMem rs rd d) s = execBsetRMem rs rd d s := rfl
@[simp] theorem exec_bsetImm (imm : BitVec 5) (rd : Reg) (s : State) :
    exec (.bsetImm imm rd) s = execBsetImm imm rd s := rfl
@[simp] theorem exec_bsetRR (rs : Reg) (rd : Reg) (s : State) : exec (.bsetRR rs rd) s = execBsetRR rs rd s := rfl
@[simp] theorem exec_btstImmMem (imm : BitVec 3) (rs2 : Reg) (d : Dsp) (s : State) :
    exec (.btstImmMem imm rs2 d) s = execBtstImmMem imm rs2 d s := rfl
@[simp] theorem exec_btstRMem (rs : Reg) (rs2 : Reg) (d : Dsp) (s : State) :
    exec (.btstRMem rs rs2 d) s = execBtstRMem rs rs2 d s := rfl
@[simp] theorem exec_btstImm (imm : BitVec 5) (rs2 : Reg) (s : State) :
    exec (.btstImm imm rs2) s = execBtstImm imm rs2 s := rfl
@[simp] theorem exec_btstRR (rs : Reg) (rs2 : Reg) (s : State) :
    exec (.btstRR rs rs2) s = execBtstRR rs rs2 s := rfl
@[simp] theorem exec_bmcndMem (cd : Cond) (imm : BitVec 3) (rd : Reg) (d : Dsp) (s : State) :
    exec (.bmcndMem cd imm rd d) s = execBmcndMem cd imm rd d s := rfl
@[simp] theorem exec_bmcndR (cd : Cond) (imm : BitVec 5) (rd : Reg) (s : State) :
    exec (.bmcndR cd imm rd) s = execBmcndR cd imm rd s := rfl
@[simp] theorem exec_bnotImmMem (imm : BitVec 3) (rd : Reg) (d : Dsp) (s : State) :
    exec (.bnotImmMem imm rd d) s = execBnotImmMem imm rd d s := rfl
@[simp] theorem exec_bnotRMem (rs : Reg) (rd : Reg) (d : Dsp) (s : State) :
    exec (.bnotRMem rs rd d) s = execBnotRMem rs rd d s := rfl
@[simp] theorem exec_bnotImm (imm : BitVec 5) (rd : Reg) (s : State) :
    exec (.bnotImm imm rd) s = execBnotImm imm rd s := rfl
@[simp] theorem exec_bnotRR (rs : Reg) (rd : Reg) (s : State) : exec (.bnotRR rs rd) s = execBnotRR rs rd s := rfl
@[simp] theorem exec_scmpu (s : State) : exec .scmpu s = execScmpu s := rfl
@[simp] theorem exec_smovb (s : State) : exec .smovb s = execSmovb s := rfl
@[simp] theorem exec_smovf (s : State) : exec .smovf s = execSmovf s := rfl
@[simp] theorem exec_smovu (s : State) : exec .smovu s = execSmovu s := rfl
@[simp] theorem exec_sstr (sz : Size) (s : State) : exec (.sstr sz) s = execSstr sz s := rfl
@[simp] theorem exec_suntil (sz : Size) (s : State) : exec (.suntil sz) s = execSuntil sz s := rfl
@[simp] theorem exec_swhile (sz : Size) (s : State) : exec (.swhile sz) s = execSwhile sz s := rfl
@[simp] theorem exec_setpsw (cb : PswBit) (s : State) : exec (.setpsw cb) s = execSetpsw cb s := rfl
@[simp] theorem exec_clrpsw (cb : PswBit) (s : State) : exec (.clrpsw cb) s = execClrpsw cb s := rfl
@[simp] theorem exec_mvfc (cr : CReg) (rd : Reg) (s : State) : exec (.mvfc cr rd) s = execMvfc cr rd s := rfl
@[simp] theorem exec_mvtcImm (imm : Simm) (cr : CReg) (s : State) :
    exec (.mvtcImm imm cr) s = execMvtcImm imm cr s := rfl
@[simp] theorem exec_mvtcR (rs : Reg) (cr : CReg) (s : State) : exec (.mvtcR rs cr) s = execMvtcR rs cr s := rfl
@[simp] theorem exec_mvtipl (imm : BitVec 4) (s : State) : exec (.mvtipl imm) s = execMvtipl imm s := rfl
@[simp] theorem exec_brk (s : State) : exec .brk s = execBrk s := rfl
@[simp] theorem exec_int (imm : BitVec 8) (s : State) : exec (.int imm) s = execInt imm s := rfl
@[simp] theorem exec_rte (s : State) : exec .rte s = execRte s := rfl
@[simp] theorem exec_rtfi (s : State) : exec .rtfi s = execRtfi s := rfl
@[simp] theorem exec_wait (s : State) : exec .wait s = execWait s := rfl
@[simp] theorem exec_machi (rs : Reg) (rs2 : Reg) (s : State) : exec (.machi rs rs2) s = execMachi rs rs2 s := rfl
@[simp] theorem exec_maclo (rs : Reg) (rs2 : Reg) (s : State) : exec (.maclo rs rs2) s = execMaclo rs rs2 s := rfl
@[simp] theorem exec_mulhi (rs : Reg) (rs2 : Reg) (s : State) : exec (.mulhi rs rs2) s = execMulhi rs rs2 s := rfl
@[simp] theorem exec_mullo (rs : Reg) (rs2 : Reg) (s : State) : exec (.mullo rs rs2) s = execMullo rs rs2 s := rfl
@[simp] theorem exec_mvfachi (rd : Reg) (s : State) : exec (.mvfachi rd) s = execMvfachi rd s := rfl
@[simp] theorem exec_mvfacmi (rd : Reg) (s : State) : exec (.mvfacmi rd) s = execMvfacmi rd s := rfl
@[simp] theorem exec_mvtachi (rs : Reg) (s : State) : exec (.mvtachi rs) s = execMvtachi rs s := rfl
@[simp] theorem exec_mvtaclo (rs : Reg) (s : State) : exec (.mvtaclo rs) s = execMvtaclo rs s := rfl
@[simp] theorem exec_racw (imm : BitVec 1) (s : State) : exec (.racw imm) s = execRacw imm s := rfl

end Sys2Proof.Machine
end

