-- ==== Sys2Proof/Laws/Fetch.lean ====
section
/-! SUPPORT. Fetching reads exactly the bytes of the instruction (R121, R611). -/

namespace Sys2Proof.Machine

@[simp] theorem State.codeBytes_length (s : State) (n : Nat) : (s.codeBytes n).length = n := by
  simp [State.codeBytes]

theorem State.codeBytes_succ (s : State) (n : Nat) : s.codeBytes (n + 1) = s.codeBytes n ++ [s.byteAt (s.after n)] := by
  simp [State.codeBytes, List.range_succ]

theorem State.codeBytes_add (s : State) (k m : Nat) : ∃ x, s.codeBytes (k + m) = s.codeBytes k ++ x ∧ x.length = m := by
  induction m with
  | zero => exact ⟨[], by simp, rfl⟩
  | succ m ih =>
    obtain ⟨x, hx, hl⟩ := ih
    exact ⟨x ++ [s.byteAt (s.after (k + m))], by rw [← Nat.add_assoc, s.codeBytes_succ, hx, List.append_assoc],
      by simp [hl]⟩

/-- Every proper prefix of an instruction's bytes is too short to tell. -/
theorem State.decode_codeBytes_short {s : State} {p : Product} {i : Instr} {n k : Nat}
    (h : decode p (s.codeBytes n) = .instr i []) (hk : k < n) : decode p (s.codeBytes k) = .short := by
  obtain ⟨x, hx, hl⟩ := s.codeBytes_add k (n - k)
  rw [show k + (n - k) = n by omega] at hx
  rw [hx] at h
  rcases decode_prefix h with h | ⟨r, -, hr⟩
  · exact h
  · have := congrArg List.length hr
    simp at this
    omega

theorem State.fetchFrom_eq {s : State} {i : Instr} {n : Nat} (h : decode s.product (s.codeBytes n) = .instr i [])
    (hf : ∀ k < n, s.faultAt (s.after k) 1 .fetch = false) (m k : Nat) (hm : m + k = n) :
    s.fetchFrom (m + 1) (s.codeBytes k) = .instr i := by
  induction m generalizing k with
  | zero =>
    obtain rfl : k = n := by omega
    simp [State.fetchFrom, h]
  | succ m ih =>
    rw [State.fetchFrom, State.decode_codeBytes_short h (by omega)]
    simp only [State.codeBytes_length, hf k (by omega), Bool.false_eq_true, if_false, ← s.codeBytes_succ]
    exact ih (k + 1) (by omega)

theorem State.fetchFrom_more {s : State} {i : Instr} {n : Nat} {bs : List Byte} (h : s.fetchFrom n bs = .instr i)
    (m : Nat) : s.fetchFrom (n + m) bs = .instr i := by
  induction n generalizing bs with
  | zero => cases h
  | succ n ih =>
    rw [show n + 1 + m = n + m + 1 by omega]
    rw [State.fetchFrom] at h ⊢
    split at h
    · exact h
    · cases h
    · dsimp only at h ⊢
      split at h
      · cases h
      · rw [if_neg ‹_›]
        exact ih h

/-- Where the n bytes at the PC, at most 8, are an instruction and can be fetched, it is the one fetched. -/
theorem State.fetch_eq {s : State} {i : Instr} {n : Nat} (hn : n ≤ 8)
    (h : decode s.product (s.codeBytes n) = .instr i [])
    (hf : ∀ k < n, s.faultAt (s.after k) 1 .fetch = false) : s.fetch = .instr i := by
  have := State.fetchFrom_more (State.fetchFrom_eq h hf n 0 rfl) (8 - n)
  rwa [show n + 1 + (8 - n) = 9 by omega] at this

end Sys2Proof.Machine
end

