-- ==== Sys2Proof/Laws/State.lean ====
section
/-! SUPPORT. One lemma per field per update of the state, so that no later proof unfolds a record update. -/

namespace Sys2Proof.Machine

/-! ### withPsw -/

@[simp] theorem State.withPsw_regs (s : State) (p : Psw) : (s.withPsw p).regs = s.regs := rfl
@[simp] theorem State.withPsw_isp (s : State) (p : Psw) : (s.withPsw p).isp = s.isp := rfl
@[simp] theorem State.withPsw_usp (s : State) (p : Psw) : (s.withPsw p).usp = s.usp := rfl
@[simp] theorem State.withPsw_intb (s : State) (p : Psw) : (s.withPsw p).intb = s.intb := rfl
@[simp] theorem State.withPsw_pc (s : State) (p : Psw) : (s.withPsw p).pc = s.pc := rfl
@[simp] theorem State.withPsw_psw (s : State) (p : Psw) : (s.withPsw p).psw = p := rfl
@[simp] theorem State.withPsw_bpc (s : State) (p : Psw) : (s.withPsw p).bpc = s.bpc := rfl
@[simp] theorem State.withPsw_bpsw (s : State) (p : Psw) : (s.withPsw p).bpsw = s.bpsw := rfl
@[simp] theorem State.withPsw_fintv (s : State) (p : Psw) : (s.withPsw p).fintv = s.fintv := rfl
@[simp] theorem State.withPsw_fpsw (s : State) (p : Psw) : (s.withPsw p).fpsw = s.fpsw := rfl
@[simp] theorem State.withPsw_acc (s : State) (p : Psw) : (s.withPsw p).acc = s.acc := rfl
@[simp] theorem State.withPsw_mem (s : State) (p : Psw) : (s.withPsw p).mem = s.mem := rfl
@[simp] theorem State.withPsw_waiting (s : State) (p : Psw) : (s.withPsw p).waiting = s.waiting := rfl
@[simp] theorem State.withPsw_nmiPending (s : State) (p : Psw) : (s.withPsw p).nmiPending = s.nmiPending := rfl
@[simp] theorem State.withPsw_product (s : State) (p : Psw) : (s.withPsw p).product = s.product := rfl
@[simp] theorem State.withPsw_inputs (s : State) (p : Psw) : (s.withPsw p).inputs = s.inputs := rfl
@[simp] theorem State.withPsw_ack (s : State) (p : Psw) : (s.withPsw p).ack = s.ack := rfl
@[simp] theorem State.withPsw_fresh (s : State) (p : Psw) : (s.withPsw p).fresh = s.fresh := rfl
@[simp] theorem State.withPsw_rmpa (s : State) (p : Psw) : (s.withPsw p).rmpa = s.rmpa := rfl

/-! ### goto -/

@[simp] theorem State.goto_regs (s : State) (a : Word) : (s.goto a).regs = s.regs := rfl
@[simp] theorem State.goto_isp (s : State) (a : Word) : (s.goto a).isp = s.isp := rfl
@[simp] theorem State.goto_usp (s : State) (a : Word) : (s.goto a).usp = s.usp := rfl
@[simp] theorem State.goto_intb (s : State) (a : Word) : (s.goto a).intb = s.intb := rfl
@[simp] theorem State.goto_pc (s : State) (a : Word) : (s.goto a).pc = a := rfl
@[simp] theorem State.goto_psw (s : State) (a : Word) : (s.goto a).psw = s.psw := rfl
@[simp] theorem State.goto_bpc (s : State) (a : Word) : (s.goto a).bpc = s.bpc := rfl
@[simp] theorem State.goto_bpsw (s : State) (a : Word) : (s.goto a).bpsw = s.bpsw := rfl
@[simp] theorem State.goto_fintv (s : State) (a : Word) : (s.goto a).fintv = s.fintv := rfl
@[simp] theorem State.goto_fpsw (s : State) (a : Word) : (s.goto a).fpsw = s.fpsw := rfl
@[simp] theorem State.goto_acc (s : State) (a : Word) : (s.goto a).acc = s.acc := rfl
@[simp] theorem State.goto_mem (s : State) (a : Word) : (s.goto a).mem = s.mem := rfl
@[simp] theorem State.goto_waiting (s : State) (a : Word) : (s.goto a).waiting = s.waiting := rfl
@[simp] theorem State.goto_nmiPending (s : State) (a : Word) : (s.goto a).nmiPending = s.nmiPending := rfl
@[simp] theorem State.goto_product (s : State) (a : Word) : (s.goto a).product = s.product := rfl
@[simp] theorem State.goto_inputs (s : State) (a : Word) : (s.goto a).inputs = s.inputs := rfl
@[simp] theorem State.goto_ack (s : State) (a : Word) : (s.goto a).ack = s.ack := rfl
@[simp] theorem State.goto_fresh (s : State) (a : Word) : (s.goto a).fresh = s.fresh := rfl
@[simp] theorem State.goto_rmpa (s : State) (a : Word) : (s.goto a).rmpa = s.rmpa := rfl

/-! ### advance -/

@[simp] theorem State.advance_regs (s : State) (n : Nat) : (s.advance n).regs = s.regs := rfl
@[simp] theorem State.advance_isp (s : State) (n : Nat) : (s.advance n).isp = s.isp := rfl
@[simp] theorem State.advance_usp (s : State) (n : Nat) : (s.advance n).usp = s.usp := rfl
@[simp] theorem State.advance_intb (s : State) (n : Nat) : (s.advance n).intb = s.intb := rfl
@[simp] theorem State.advance_pc (s : State) (n : Nat) : (s.advance n).pc = s.after n := rfl
@[simp] theorem State.advance_psw (s : State) (n : Nat) : (s.advance n).psw = s.psw := rfl
@[simp] theorem State.advance_bpc (s : State) (n : Nat) : (s.advance n).bpc = s.bpc := rfl
@[simp] theorem State.advance_bpsw (s : State) (n : Nat) : (s.advance n).bpsw = s.bpsw := rfl
@[simp] theorem State.advance_fintv (s : State) (n : Nat) : (s.advance n).fintv = s.fintv := rfl
@[simp] theorem State.advance_fpsw (s : State) (n : Nat) : (s.advance n).fpsw = s.fpsw := rfl
@[simp] theorem State.advance_acc (s : State) (n : Nat) : (s.advance n).acc = s.acc := rfl
@[simp] theorem State.advance_mem (s : State) (n : Nat) : (s.advance n).mem = s.mem := rfl
@[simp] theorem State.advance_waiting (s : State) (n : Nat) : (s.advance n).waiting = s.waiting := rfl
@[simp] theorem State.advance_nmiPending (s : State) (n : Nat) : (s.advance n).nmiPending = s.nmiPending := rfl
@[simp] theorem State.advance_product (s : State) (n : Nat) : (s.advance n).product = s.product := rfl
@[simp] theorem State.advance_inputs (s : State) (n : Nat) : (s.advance n).inputs = s.inputs := rfl
@[simp] theorem State.advance_ack (s : State) (n : Nat) : (s.advance n).ack = s.ack := rfl
@[simp] theorem State.advance_fresh (s : State) (n : Nat) : (s.advance n).fresh = s.fresh := rfl
@[simp] theorem State.advance_rmpa (s : State) (n : Nat) : (s.advance n).rmpa = s.rmpa := rfl

/-! ### drawWord -/

@[simp] theorem State.drawWord_regs (s : State) : (s.drawWord.2).regs = s.regs := rfl
@[simp] theorem State.drawWord_isp (s : State) : (s.drawWord.2).isp = s.isp := rfl
@[simp] theorem State.drawWord_usp (s : State) : (s.drawWord.2).usp = s.usp := rfl
@[simp] theorem State.drawWord_intb (s : State) : (s.drawWord.2).intb = s.intb := rfl
@[simp] theorem State.drawWord_pc (s : State) : (s.drawWord.2).pc = s.pc := rfl
@[simp] theorem State.drawWord_psw (s : State) : (s.drawWord.2).psw = s.psw := rfl
@[simp] theorem State.drawWord_bpc (s : State) : (s.drawWord.2).bpc = s.bpc := rfl
@[simp] theorem State.drawWord_bpsw (s : State) : (s.drawWord.2).bpsw = s.bpsw := rfl
@[simp] theorem State.drawWord_fintv (s : State) : (s.drawWord.2).fintv = s.fintv := rfl
@[simp] theorem State.drawWord_fpsw (s : State) : (s.drawWord.2).fpsw = s.fpsw := rfl
@[simp] theorem State.drawWord_acc (s : State) : (s.drawWord.2).acc = s.acc := rfl
@[simp] theorem State.drawWord_mem (s : State) : (s.drawWord.2).mem = s.mem := rfl
@[simp] theorem State.drawWord_waiting (s : State) : (s.drawWord.2).waiting = s.waiting := rfl
@[simp] theorem State.drawWord_nmiPending (s : State) : (s.drawWord.2).nmiPending = s.nmiPending := rfl
@[simp] theorem State.drawWord_product (s : State) : (s.drawWord.2).product = s.product := rfl
@[simp] theorem State.drawWord_inputs (s : State) : (s.drawWord.2).inputs = s.inputs := rfl
@[simp] theorem State.drawWord_ack (s : State) : (s.drawWord.2).ack = s.ack := rfl
@[simp] theorem State.drawWord_fresh (s : State) : (s.drawWord.2).fresh = s.fresh + 1 := rfl
@[simp] theorem State.drawWord_rmpa (s : State) : (s.drawWord.2).rmpa = s.rmpa := rfl

/-! ### clobberAcc -/

@[simp] theorem State.clobberAcc_regs (s : State) : (s.clobberAcc).regs = s.regs := rfl
@[simp] theorem State.clobberAcc_isp (s : State) : (s.clobberAcc).isp = s.isp := rfl
@[simp] theorem State.clobberAcc_usp (s : State) : (s.clobberAcc).usp = s.usp := rfl
@[simp] theorem State.clobberAcc_intb (s : State) : (s.clobberAcc).intb = s.intb := rfl
@[simp] theorem State.clobberAcc_pc (s : State) : (s.clobberAcc).pc = s.pc := rfl
@[simp] theorem State.clobberAcc_psw (s : State) : (s.clobberAcc).psw = s.psw := rfl
@[simp] theorem State.clobberAcc_bpc (s : State) : (s.clobberAcc).bpc = s.bpc := rfl
@[simp] theorem State.clobberAcc_bpsw (s : State) : (s.clobberAcc).bpsw = s.bpsw := rfl
@[simp] theorem State.clobberAcc_fintv (s : State) : (s.clobberAcc).fintv = s.fintv := rfl
@[simp] theorem State.clobberAcc_fpsw (s : State) : (s.clobberAcc).fpsw = s.fpsw := rfl
@[simp] theorem State.clobberAcc_acc (s : State) : (s.clobberAcc).acc = Config.freeAcc s.fresh := rfl
@[simp] theorem State.clobberAcc_mem (s : State) : (s.clobberAcc).mem = s.mem := rfl
@[simp] theorem State.clobberAcc_waiting (s : State) : (s.clobberAcc).waiting = s.waiting := rfl
@[simp] theorem State.clobberAcc_nmiPending (s : State) : (s.clobberAcc).nmiPending = s.nmiPending := rfl
@[simp] theorem State.clobberAcc_product (s : State) : (s.clobberAcc).product = s.product := rfl
@[simp] theorem State.clobberAcc_inputs (s : State) : (s.clobberAcc).inputs = s.inputs := rfl
@[simp] theorem State.clobberAcc_ack (s : State) : (s.clobberAcc).ack = s.ack := rfl
@[simp] theorem State.clobberAcc_fresh (s : State) : (s.clobberAcc).fresh = s.fresh + 1 := rfl
@[simp] theorem State.clobberAcc_rmpa (s : State) : (s.clobberAcc).rmpa = s.rmpa := rfl

/-! ### markRmpa -/

@[simp] theorem State.markRmpa_regs (s : State) (a : Option Word) : (s.markRmpa a).regs = s.regs := rfl
@[simp] theorem State.markRmpa_isp (s : State) (a : Option Word) : (s.markRmpa a).isp = s.isp := rfl
@[simp] theorem State.markRmpa_usp (s : State) (a : Option Word) : (s.markRmpa a).usp = s.usp := rfl
@[simp] theorem State.markRmpa_intb (s : State) (a : Option Word) : (s.markRmpa a).intb = s.intb := rfl
@[simp] theorem State.markRmpa_pc (s : State) (a : Option Word) : (s.markRmpa a).pc = s.pc := rfl
@[simp] theorem State.markRmpa_psw (s : State) (a : Option Word) : (s.markRmpa a).psw = s.psw := rfl
@[simp] theorem State.markRmpa_bpc (s : State) (a : Option Word) : (s.markRmpa a).bpc = s.bpc := rfl
@[simp] theorem State.markRmpa_bpsw (s : State) (a : Option Word) : (s.markRmpa a).bpsw = s.bpsw := rfl
@[simp] theorem State.markRmpa_fintv (s : State) (a : Option Word) : (s.markRmpa a).fintv = s.fintv := rfl
@[simp] theorem State.markRmpa_fpsw (s : State) (a : Option Word) : (s.markRmpa a).fpsw = s.fpsw := rfl
@[simp] theorem State.markRmpa_acc (s : State) (a : Option Word) : (s.markRmpa a).acc = s.acc := rfl
@[simp] theorem State.markRmpa_mem (s : State) (a : Option Word) : (s.markRmpa a).mem = s.mem := rfl
@[simp] theorem State.markRmpa_waiting (s : State) (a : Option Word) : (s.markRmpa a).waiting = s.waiting := rfl
@[simp] theorem State.markRmpa_nmiPending (s : State) (a : Option Word) : (s.markRmpa a).nmiPending = s.nmiPending := rfl
@[simp] theorem State.markRmpa_product (s : State) (a : Option Word) : (s.markRmpa a).product = s.product := rfl
@[simp] theorem State.markRmpa_inputs (s : State) (a : Option Word) : (s.markRmpa a).inputs = s.inputs := rfl
@[simp] theorem State.markRmpa_ack (s : State) (a : Option Word) : (s.markRmpa a).ack = s.ack := rfl
@[simp] theorem State.markRmpa_fresh (s : State) (a : Option Word) : (s.markRmpa a).fresh = s.fresh := rfl
@[simp] theorem State.markRmpa_running (s : State) (a : Option Word) : (s.markRmpa a).rmpa.running = a := rfl
@[simp] theorem State.markRmpa_suspended (s : State) (a : Option Word) :
    (s.markRmpa a).rmpa.suspended = s.rmpa.suspended := rfl

/-! ### putByte -/

@[simp] theorem State.putByte_regs (s : State) (a : Word) (v : Byte) : (s.putByte a v).regs = s.regs := rfl
@[simp] theorem State.putByte_isp (s : State) (a : Word) (v : Byte) : (s.putByte a v).isp = s.isp := rfl
@[simp] theorem State.putByte_usp (s : State) (a : Word) (v : Byte) : (s.putByte a v).usp = s.usp := rfl
@[simp] theorem State.putByte_intb (s : State) (a : Word) (v : Byte) : (s.putByte a v).intb = s.intb := rfl
@[simp] theorem State.putByte_pc (s : State) (a : Word) (v : Byte) : (s.putByte a v).pc = s.pc := rfl
@[simp] theorem State.putByte_psw (s : State) (a : Word) (v : Byte) : (s.putByte a v).psw = s.psw := rfl
@[simp] theorem State.putByte_bpc (s : State) (a : Word) (v : Byte) : (s.putByte a v).bpc = s.bpc := rfl
@[simp] theorem State.putByte_bpsw (s : State) (a : Word) (v : Byte) : (s.putByte a v).bpsw = s.bpsw := rfl
@[simp] theorem State.putByte_fintv (s : State) (a : Word) (v : Byte) : (s.putByte a v).fintv = s.fintv := rfl
@[simp] theorem State.putByte_fpsw (s : State) (a : Word) (v : Byte) : (s.putByte a v).fpsw = s.fpsw := rfl
@[simp] theorem State.putByte_acc (s : State) (a : Word) (v : Byte) : (s.putByte a v).acc = s.acc := rfl
@[simp] theorem State.putByte_mem (s : State) (a : Word) (v : Byte) : (s.putByte a v).mem = Memory.set a.toNat v s.mem := rfl
@[simp] theorem State.putByte_waiting (s : State) (a : Word) (v : Byte) : (s.putByte a v).waiting = s.waiting := rfl
@[simp] theorem State.putByte_nmiPending (s : State) (a : Word) (v : Byte) : (s.putByte a v).nmiPending = s.nmiPending := rfl
@[simp] theorem State.putByte_product (s : State) (a : Word) (v : Byte) : (s.putByte a v).product = s.product := rfl
@[simp] theorem State.putByte_inputs (s : State) (a : Word) (v : Byte) : (s.putByte a v).inputs = s.inputs := rfl
@[simp] theorem State.putByte_ack (s : State) (a : Word) (v : Byte) : (s.putByte a v).ack = s.ack := rfl
@[simp] theorem State.putByte_fresh (s : State) (a : Word) (v : Byte) : (s.putByte a v).fresh = s.fresh := rfl
@[simp] theorem State.putByte_rmpa (s : State) (a : Word) (v : Byte) : (s.putByte a v).rmpa = s.rmpa := rfl

/-! ### setSp: it writes ISP or USP -/

@[simp] theorem State.setSp_regs (s : State) (v : Word) : (s.setSp v).regs = s.regs := by
  unfold State.setSp; split <;> rfl
@[simp] theorem State.setSp_isp (s : State) (v : Word) : (s.setSp v).isp = if s.psw.u then s.isp else v := by
  unfold State.setSp; split <;> rfl
@[simp] theorem State.setSp_usp (s : State) (v : Word) : (s.setSp v).usp = if s.psw.u then v else s.usp := by
  unfold State.setSp; split <;> rfl
@[simp] theorem State.setSp_intb (s : State) (v : Word) : (s.setSp v).intb = s.intb := by
  unfold State.setSp; split <;> rfl
@[simp] theorem State.setSp_pc (s : State) (v : Word) : (s.setSp v).pc = s.pc := by
  unfold State.setSp; split <;> rfl
@[simp] theorem State.setSp_psw (s : State) (v : Word) : (s.setSp v).psw = s.psw := by
  unfold State.setSp; split <;> rfl
@[simp] theorem State.setSp_bpc (s : State) (v : Word) : (s.setSp v).bpc = s.bpc := by
  unfold State.setSp; split <;> rfl
@[simp] theorem State.setSp_bpsw (s : State) (v : Word) : (s.setSp v).bpsw = s.bpsw := by
  unfold State.setSp; split <;> rfl
@[simp] theorem State.setSp_fintv (s : State) (v : Word) : (s.setSp v).fintv = s.fintv := by
  unfold State.setSp; split <;> rfl
@[simp] theorem State.setSp_fpsw (s : State) (v : Word) : (s.setSp v).fpsw = s.fpsw := by
  unfold State.setSp; split <;> rfl
@[simp] theorem State.setSp_acc (s : State) (v : Word) : (s.setSp v).acc = s.acc := by
  unfold State.setSp; split <;> rfl
@[simp] theorem State.setSp_mem (s : State) (v : Word) : (s.setSp v).mem = s.mem := by
  unfold State.setSp; split <;> rfl
@[simp] theorem State.setSp_waiting (s : State) (v : Word) : (s.setSp v).waiting = s.waiting := by
  unfold State.setSp; split <;> rfl
@[simp] theorem State.setSp_nmiPending (s : State) (v : Word) : (s.setSp v).nmiPending = s.nmiPending := by
  unfold State.setSp; split <;> rfl
@[simp] theorem State.setSp_product (s : State) (v : Word) : (s.setSp v).product = s.product := by
  unfold State.setSp; split <;> rfl
@[simp] theorem State.setSp_inputs (s : State) (v : Word) : (s.setSp v).inputs = s.inputs := by
  unfold State.setSp; split <;> rfl
@[simp] theorem State.setSp_ack (s : State) (v : Word) : (s.setSp v).ack = s.ack := by
  unfold State.setSp; split <;> rfl
@[simp] theorem State.setSp_fresh (s : State) (v : Word) : (s.setSp v).fresh = s.fresh := by
  unfold State.setSp; split <;> rfl
@[simp] theorem State.setSp_rmpa (s : State) (v : Word) : (s.setSp v).rmpa = s.rmpa := by
  unfold State.setSp; split <;> rfl

/-! ### setReg: it writes R1 to R15, or the selected stack pointer -/

@[simp] theorem State.setReg_intb (s : State) (r : Reg) (v : Word) : (s.setReg r v).intb = s.intb := by
  unfold State.setReg; split <;> simp
@[simp] theorem State.setReg_pc (s : State) (r : Reg) (v : Word) : (s.setReg r v).pc = s.pc := by
  unfold State.setReg; split <;> simp
@[simp] theorem State.setReg_psw (s : State) (r : Reg) (v : Word) : (s.setReg r v).psw = s.psw := by
  unfold State.setReg; split <;> simp
@[simp] theorem State.setReg_bpc (s : State) (r : Reg) (v : Word) : (s.setReg r v).bpc = s.bpc := by
  unfold State.setReg; split <;> simp
@[simp] theorem State.setReg_bpsw (s : State) (r : Reg) (v : Word) : (s.setReg r v).bpsw = s.bpsw := by
  unfold State.setReg; split <;> simp
@[simp] theorem State.setReg_fintv (s : State) (r : Reg) (v : Word) : (s.setReg r v).fintv = s.fintv := by
  unfold State.setReg; split <;> simp
@[simp] theorem State.setReg_fpsw (s : State) (r : Reg) (v : Word) : (s.setReg r v).fpsw = s.fpsw := by
  unfold State.setReg; split <;> simp
@[simp] theorem State.setReg_acc (s : State) (r : Reg) (v : Word) : (s.setReg r v).acc = s.acc := by
  unfold State.setReg; split <;> simp
@[simp] theorem State.setReg_mem (s : State) (r : Reg) (v : Word) : (s.setReg r v).mem = s.mem := by
  unfold State.setReg; split <;> simp
@[simp] theorem State.setReg_waiting (s : State) (r : Reg) (v : Word) : (s.setReg r v).waiting = s.waiting := by
  unfold State.setReg; split <;> simp
@[simp] theorem State.setReg_nmiPending (s : State) (r : Reg) (v : Word) : (s.setReg r v).nmiPending = s.nmiPending := by
  unfold State.setReg; split <;> simp
@[simp] theorem State.setReg_product (s : State) (r : Reg) (v : Word) : (s.setReg r v).product = s.product := by
  unfold State.setReg; split <;> simp
@[simp] theorem State.setReg_inputs (s : State) (r : Reg) (v : Word) : (s.setReg r v).inputs = s.inputs := by
  unfold State.setReg; split <;> simp
@[simp] theorem State.setReg_ack (s : State) (r : Reg) (v : Word) : (s.setReg r v).ack = s.ack := by
  unfold State.setReg; split <;> simp
@[simp] theorem State.setReg_fresh (s : State) (r : Reg) (v : Word) : (s.setReg r v).fresh = s.fresh := by
  unfold State.setReg; split <;> simp
@[simp] theorem State.setReg_rmpa (s : State) (r : Reg) (v : Word) : (s.setReg r v).rmpa = s.rmpa := by
  unfold State.setReg; split <;> simp

/-! ### clobberReg -/

@[simp] theorem State.clobberReg_intb (s : State) (r : Reg) : (s.clobberReg r).intb = s.intb := by
  simp [State.clobberReg]
@[simp] theorem State.clobberReg_pc (s : State) (r : Reg) : (s.clobberReg r).pc = s.pc := by
  simp [State.clobberReg]
@[simp] theorem State.clobberReg_psw (s : State) (r : Reg) : (s.clobberReg r).psw = s.psw := by
  simp [State.clobberReg]
@[simp] theorem State.clobberReg_bpc (s : State) (r : Reg) : (s.clobberReg r).bpc = s.bpc := by
  simp [State.clobberReg]
@[simp] theorem State.clobberReg_bpsw (s : State) (r : Reg) : (s.clobberReg r).bpsw = s.bpsw := by
  simp [State.clobberReg]
@[simp] theorem State.clobberReg_fintv (s : State) (r : Reg) : (s.clobberReg r).fintv = s.fintv := by
  simp [State.clobberReg]
@[simp] theorem State.clobberReg_fpsw (s : State) (r : Reg) : (s.clobberReg r).fpsw = s.fpsw := by
  simp [State.clobberReg]
@[simp] theorem State.clobberReg_acc (s : State) (r : Reg) : (s.clobberReg r).acc = s.acc := by
  simp [State.clobberReg]
@[simp] theorem State.clobberReg_mem (s : State) (r : Reg) : (s.clobberReg r).mem = s.mem := by
  simp [State.clobberReg]
@[simp] theorem State.clobberReg_waiting (s : State) (r : Reg) : (s.clobberReg r).waiting = s.waiting := by
  simp [State.clobberReg]
@[simp] theorem State.clobberReg_nmiPending (s : State) (r : Reg) : (s.clobberReg r).nmiPending = s.nmiPending := by
  simp [State.clobberReg]
@[simp] theorem State.clobberReg_product (s : State) (r : Reg) : (s.clobberReg r).product = s.product := by
  simp [State.clobberReg]
@[simp] theorem State.clobberReg_inputs (s : State) (r : Reg) : (s.clobberReg r).inputs = s.inputs := by
  simp [State.clobberReg]
@[simp] theorem State.clobberReg_ack (s : State) (r : Reg) : (s.clobberReg r).ack = s.ack := by
  simp [State.clobberReg]
@[simp] theorem State.clobberReg_fresh (s : State) (r : Reg) : (s.clobberReg r).fresh = s.fresh + 1 := by
  simp [State.clobberReg]
@[simp] theorem State.clobberReg_rmpa (s : State) (r : Reg) : (s.clobberReg r).rmpa = s.rmpa := by
  simp [State.clobberReg]

/-! ### putBytes and poke: they write memory only -/

@[simp] theorem State.putBytes_regs (s : State) (a : Word) (l : List Byte) : (s.putBytes a l).regs = s.regs := by
  induction l generalizing s a <;> simp_all [State.putBytes]
@[simp] theorem State.putBytes_isp (s : State) (a : Word) (l : List Byte) : (s.putBytes a l).isp = s.isp := by
  induction l generalizing s a <;> simp_all [State.putBytes]
@[simp] theorem State.putBytes_usp (s : State) (a : Word) (l : List Byte) : (s.putBytes a l).usp = s.usp := by
  induction l generalizing s a <;> simp_all [State.putBytes]
@[simp] theorem State.putBytes_intb (s : State) (a : Word) (l : List Byte) : (s.putBytes a l).intb = s.intb := by
  induction l generalizing s a <;> simp_all [State.putBytes]
@[simp] theorem State.putBytes_pc (s : State) (a : Word) (l : List Byte) : (s.putBytes a l).pc = s.pc := by
  induction l generalizing s a <;> simp_all [State.putBytes]
@[simp] theorem State.putBytes_psw (s : State) (a : Word) (l : List Byte) : (s.putBytes a l).psw = s.psw := by
  induction l generalizing s a <;> simp_all [State.putBytes]
@[simp] theorem State.putBytes_bpc (s : State) (a : Word) (l : List Byte) : (s.putBytes a l).bpc = s.bpc := by
  induction l generalizing s a <;> simp_all [State.putBytes]
@[simp] theorem State.putBytes_bpsw (s : State) (a : Word) (l : List Byte) : (s.putBytes a l).bpsw = s.bpsw := by
  induction l generalizing s a <;> simp_all [State.putBytes]
@[simp] theorem State.putBytes_fintv (s : State) (a : Word) (l : List Byte) : (s.putBytes a l).fintv = s.fintv := by
  induction l generalizing s a <;> simp_all [State.putBytes]
@[simp] theorem State.putBytes_fpsw (s : State) (a : Word) (l : List Byte) : (s.putBytes a l).fpsw = s.fpsw := by
  induction l generalizing s a <;> simp_all [State.putBytes]
@[simp] theorem State.putBytes_acc (s : State) (a : Word) (l : List Byte) : (s.putBytes a l).acc = s.acc := by
  induction l generalizing s a <;> simp_all [State.putBytes]
@[simp] theorem State.putBytes_waiting (s : State) (a : Word) (l : List Byte) : (s.putBytes a l).waiting = s.waiting := by
  induction l generalizing s a <;> simp_all [State.putBytes]
@[simp] theorem State.putBytes_nmiPending (s : State) (a : Word) (l : List Byte) : (s.putBytes a l).nmiPending = s.nmiPending := by
  induction l generalizing s a <;> simp_all [State.putBytes]
@[simp] theorem State.putBytes_product (s : State) (a : Word) (l : List Byte) : (s.putBytes a l).product = s.product := by
  induction l generalizing s a <;> simp_all [State.putBytes]
@[simp] theorem State.putBytes_inputs (s : State) (a : Word) (l : List Byte) : (s.putBytes a l).inputs = s.inputs := by
  induction l generalizing s a <;> simp_all [State.putBytes]
@[simp] theorem State.putBytes_ack (s : State) (a : Word) (l : List Byte) : (s.putBytes a l).ack = s.ack := by
  induction l generalizing s a <;> simp_all [State.putBytes]
@[simp] theorem State.putBytes_fresh (s : State) (a : Word) (l : List Byte) : (s.putBytes a l).fresh = s.fresh := by
  induction l generalizing s a <;> simp_all [State.putBytes]
@[simp] theorem State.putBytes_rmpa (s : State) (a : Word) (l : List Byte) : (s.putBytes a l).rmpa = s.rmpa := by
  induction l generalizing s a <;> simp_all [State.putBytes]

@[simp] theorem State.poke_regs (s : State) (a : Word) (sz : Size) (v : Word) : (s.poke a sz v).regs = s.regs := s.putBytes_regs a _
@[simp] theorem State.poke_isp (s : State) (a : Word) (sz : Size) (v : Word) : (s.poke a sz v).isp = s.isp := s.putBytes_isp a _
@[simp] theorem State.poke_usp (s : State) (a : Word) (sz : Size) (v : Word) : (s.poke a sz v).usp = s.usp := s.putBytes_usp a _
@[simp] theorem State.poke_intb (s : State) (a : Word) (sz : Size) (v : Word) : (s.poke a sz v).intb = s.intb := s.putBytes_intb a _
@[simp] theorem State.poke_pc (s : State) (a : Word) (sz : Size) (v : Word) : (s.poke a sz v).pc = s.pc := s.putBytes_pc a _
@[simp] theorem State.poke_psw (s : State) (a : Word) (sz : Size) (v : Word) : (s.poke a sz v).psw = s.psw := s.putBytes_psw a _
@[simp] theorem State.poke_bpc (s : State) (a : Word) (sz : Size) (v : Word) : (s.poke a sz v).bpc = s.bpc := s.putBytes_bpc a _
@[simp] theorem State.poke_bpsw (s : State) (a : Word) (sz : Size) (v : Word) : (s.poke a sz v).bpsw = s.bpsw := s.putBytes_bpsw a _
@[simp] theorem State.poke_fintv (s : State) (a : Word) (sz : Size) (v : Word) : (s.poke a sz v).fintv = s.fintv := s.putBytes_fintv a _
@[simp] theorem State.poke_fpsw (s : State) (a : Word) (sz : Size) (v : Word) : (s.poke a sz v).fpsw = s.fpsw := s.putBytes_fpsw a _
@[simp] theorem State.poke_acc (s : State) (a : Word) (sz : Size) (v : Word) : (s.poke a sz v).acc = s.acc := s.putBytes_acc a _
@[simp] theorem State.poke_waiting (s : State) (a : Word) (sz : Size) (v : Word) : (s.poke a sz v).waiting = s.waiting := s.putBytes_waiting a _
@[simp] theorem State.poke_nmiPending (s : State) (a : Word) (sz : Size) (v : Word) : (s.poke a sz v).nmiPending = s.nmiPending := s.putBytes_nmiPending a _
@[simp] theorem State.poke_product (s : State) (a : Word) (sz : Size) (v : Word) : (s.poke a sz v).product = s.product := s.putBytes_product a _
@[simp] theorem State.poke_inputs (s : State) (a : Word) (sz : Size) (v : Word) : (s.poke a sz v).inputs = s.inputs := s.putBytes_inputs a _
@[simp] theorem State.poke_ack (s : State) (a : Word) (sz : Size) (v : Word) : (s.poke a sz v).ack = s.ack := s.putBytes_ack a _
@[simp] theorem State.poke_fresh (s : State) (a : Word) (sz : Size) (v : Word) : (s.poke a sz v).fresh = s.fresh := s.putBytes_fresh a _
@[simp] theorem State.poke_rmpa (s : State) (a : Word) (sz : Size) (v : Word) : (s.poke a sz v).rmpa = s.rmpa := s.putBytes_rmpa a _

/-! ### sample -/

@[simp] theorem State.sample_regs (s : State) : (s.sample).regs = s.regs := rfl
@[simp] theorem State.sample_isp (s : State) : (s.sample).isp = s.isp := rfl
@[simp] theorem State.sample_usp (s : State) : (s.sample).usp = s.usp := rfl
@[simp] theorem State.sample_intb (s : State) : (s.sample).intb = s.intb := rfl
@[simp] theorem State.sample_pc (s : State) : (s.sample).pc = s.pc := rfl
@[simp] theorem State.sample_psw (s : State) : (s.sample).psw = s.psw := rfl
@[simp] theorem State.sample_bpc (s : State) : (s.sample).bpc = s.bpc := rfl
@[simp] theorem State.sample_bpsw (s : State) : (s.sample).bpsw = s.bpsw := rfl
@[simp] theorem State.sample_fintv (s : State) : (s.sample).fintv = s.fintv := rfl
@[simp] theorem State.sample_fpsw (s : State) : (s.sample).fpsw = s.fpsw := rfl
@[simp] theorem State.sample_acc (s : State) : (s.sample).acc = s.acc := rfl
@[simp] theorem State.sample_mem (s : State) : (s.sample).mem = s.mem := rfl
@[simp] theorem State.sample_waiting (s : State) : (s.sample).waiting = s.waiting := rfl
@[simp] theorem State.sample_nmiPending (s : State) : (s.sample).nmiPending = (s.nmiPending || s.input.nmi) := rfl
@[simp] theorem State.sample_product (s : State) : (s.sample).product = s.product := rfl
@[simp] theorem State.sample_inputs (s : State) : (s.sample).inputs = s.inputs.tail := rfl
@[simp] theorem State.sample_ack (s : State) : (s.sample).ack = none := rfl
@[simp] theorem State.sample_fresh (s : State) : (s.sample).fresh = s.fresh := rfl
@[simp] theorem State.sample_rmpa (s : State) : (s.sample).rmpa = s.rmpa := rfl

end Sys2Proof.Machine
end

