-- ==== Sys2Proof/Laws/Memory.lean ====
section
/-! SUPPORT. The laws of memory: reading after writing, and the canonical form that every operation keeps. -/

namespace Sys2Proof.Machine

/-! ### The list of cells -/

theorem Memory.get_set_ne (m : List Host.Cell) (a b : Nat) (v : Byte) (h : b ≠ a) :
    Memory.get (Memory.set a v m) b = Memory.get m b := by
  induction m with
  | nil => simp only [Memory.set]; split <;> simp [Memory.get, Ne.symm h]
  | cons c r ih =>
    simp only [Memory.set]
    split
    · split <;> simp [Memory.get, Ne.symm h]
    · split
      · rename_i hc
        split <;> simp [Memory.get, ← hc, Ne.symm h]
      · simp [Memory.get, ih]

theorem Memory.wf_iff (m : List Host.Cell) :
    Memory.wf m = true ↔ (m.Pairwise fun c d => c.1 < d.1) ∧ ∀ c ∈ m, c.1 < 2 ^ 32 ∧ c.2 ≠ Memory.blank := by
  simp [Memory.wf, List.all_eq_true]

theorem Memory.wf_tail {c : Host.Cell} {r : List Host.Cell} (h : Memory.wf (c :: r) = true) : Memory.wf r = true := by
  rw [Memory.wf_iff] at *
  exact ⟨(List.pairwise_cons.1 h.1).2, fun d hd => h.2 d (List.mem_cons_of_mem _ hd)⟩

/-- An address below every listed one reads as blank. -/
theorem Memory.get_of_lt (m : List Host.Cell) (a : Nat) (h : ∀ c ∈ m, a < c.1) : Memory.get m a = Memory.blank := by
  induction m with
  | nil => rfl
  | cons c r ih =>
    have hc := h c (by simp)
    rw [Memory.get, if_neg (by omega)]
    exact ih fun d hd => h d (List.mem_cons_of_mem _ hd)

theorem Memory.get_set_same (m : List Host.Cell) (a : Nat) (v : Byte) (h : Memory.wf m = true) :
    Memory.get (Memory.set a v m) a = v := by
  induction m with
  | nil => simp only [Memory.set]; split <;> simp_all [Memory.get]
  | cons c r ih =>
    have hw := (Memory.wf_iff _).1 h
    have hp := (List.pairwise_cons.1 hw.1).1
    simp only [Memory.set]
    split
    · rename_i hlt
      split
      · rename_i hv
        rw [hv]
        exact Memory.get_of_lt _ _ fun d hd => by
          rcases List.mem_cons.1 hd with rfl | hd
          · exact hlt
          · exact Nat.lt_trans hlt (hp d hd)
      · simp [Memory.get]
    · split
      · rename_i heq
        split
        · rename_i hv
          rw [hv, heq]
          exact Memory.get_of_lt _ _ hp
        · simp [Memory.get]
      · rename_i hne
        rw [Memory.get, if_neg (Ne.symm hne)]
        exact ih (Memory.wf_tail h)

theorem Memory.mem_set {m : List Host.Cell} {a : Nat} {v : Byte} {d : Host.Cell} (h : d ∈ Memory.set a v m) :
    d ∈ m ∨ (d = (a, v) ∧ v ≠ Memory.blank) := by
  induction m with
  | nil => simp only [Memory.set] at h; split at h <;> simp_all
  | cons c r ih =>
    simp only [Memory.set] at h
    split at h
    · split at h
      · exact .inl h
      · rename_i hv
        rcases List.mem_cons.1 h with rfl | h
        · exact .inr ⟨rfl, hv⟩
        · exact .inl h
    · split at h
      · split at h
        · exact .inl (List.mem_cons_of_mem _ h)
        · rename_i hv
          rcases List.mem_cons.1 h with rfl | h
          · exact .inr ⟨rfl, hv⟩
          · exact .inl (List.mem_cons_of_mem _ h)
      · rcases List.mem_cons.1 h with rfl | h
        · exact .inl (by simp)
        · exact (ih h).imp_left (List.mem_cons_of_mem _)

/-- Every write keeps the canonical form. -/
theorem Memory.set_wf (m : List Host.Cell) (a : Nat) (v : Byte) (h : Memory.wf m = true) (ha : a < 2 ^ 32) :
    Memory.wf (Memory.set a v m) = true := by
  rw [Memory.wf_iff]
  constructor
  · induction m with
    | nil => simp only [Memory.set]; split <;> simp
    | cons c r ih =>
      have hw := (Memory.wf_iff _).1 h
      have hp := List.pairwise_cons.1 hw.1
      simp only [Memory.set]
      split
      · rename_i hlt
        split
        · exact hw.1
        · refine List.pairwise_cons.2 ⟨fun d hd => ?_, hw.1⟩
          rcases List.mem_cons.1 hd with rfl | hd
          · exact hlt
          · exact Nat.lt_trans hlt (hp.1 d hd)
      · split
        · rename_i heq
          split
          · exact hp.2
          · exact List.pairwise_cons.2 ⟨fun d hd => heq ▸ hp.1 d hd, hp.2⟩
        · rename_i hlt hne
          refine List.pairwise_cons.2 ⟨fun d hd => ?_, ih (Memory.wf_tail h)⟩
          rcases Memory.mem_set hd with hd | ⟨rfl, -⟩
          · exact hp.1 d hd
          · show c.1 < a
            omega
  · intro d hd
    rcases Memory.mem_set hd with hd | ⟨rfl, hv⟩
    · exact ((Memory.wf_iff _).1 h).2 d hd
    · exact ⟨ha, hv⟩

/-! ### Bytes of a state -/

theorem State.byteAt_putByte_ne (s : State) (a b : Word) (v : Byte) (h : b ≠ a) :
    (s.putByte a v).byteAt b = s.byteAt b :=
  Memory.get_set_ne _ _ _ _ fun hb => h (BitVec.eq_of_toNat_eq hb)

theorem State.byteAt_putByte_same (s : State) (a : Word) (v : Byte) (h : Memory.wf s.mem = true) :
    (s.putByte a v).byteAt a = v := Memory.get_set_same _ _ _ h

theorem State.putByte_wf (s : State) (a : Word) (v : Byte) (h : Memory.wf s.mem = true) :
    Memory.wf (s.putByte a v).mem = true := Memory.set_wf _ _ _ h a.isLt

theorem State.putBytes_wf (s : State) (a : Word) (l : List Byte) (h : Memory.wf s.mem = true) :
    Memory.wf (s.putBytes a l).mem = true := by
  induction l generalizing s a with
  | nil => exact h
  | cons b r ih => exact ih _ _ (s.putByte_wf a b h)

/-- Every checked or unchecked store goes through `poke`, and keeps the canonical form. -/
theorem State.poke_wf (s : State) (a : Word) (sz : Size) (v : Word) (h : Memory.wf s.mem = true) :
    Memory.wf (s.poke a sz v).mem = true := s.putBytes_wf a _ h

theorem State.byteAt_putBytes_ne (s : State) (a b : Word) (l : List Byte)
    (h : ∀ k < l.length, b ≠ a + BitVec.ofNat 32 k) : (s.putBytes a l).byteAt b = s.byteAt b := by
  induction l generalizing s a with
  | nil => rfl
  | cons x r ih =>
    rw [State.putBytes, ih]
    · exact s.byteAt_putByte_ne _ _ _ (by simpa using h 0 (by simp))
    · intro k hk
      have := h (k + 1) (by simpa using hk)
      rwa [show a + 1 + BitVec.ofNat 32 k = a + BitVec.ofNat 32 (k + 1) from by
        rw [BitVec.add_assoc, BitVec.add_comm 1, BitVec.ofNat_add]; rfl]

@[simp] theorem valueBytes_length (big : Bool) (sz : Size) (v : Word) : (valueBytes big sz v).length = sz.bytes := by
  cases sz <;> cases big <;> rfl

/-- A store changes only the bytes it stores to. -/
theorem State.byteAt_poke_ne (s : State) (a b : Word) (sz : Size) (v : Word)
    (h : ∀ k < sz.bytes, b ≠ a + BitVec.ofNat 32 k) : (s.poke a sz v).byteAt b = s.byteAt b :=
  s.byteAt_putBytes_ne a b _ (by simpa using h)

theorem State.reset_mem_wf : Memory.wf State.reset.mem = true := rfl

end Sys2Proof.Machine
end

