-- ==== Sys2Proof/Laws/Registers.lean ====
section
/-! SUPPORT. The laws of the register file: R0 is the selected stack pointer (R21), a write is read back and changes
no other register. -/

namespace Sys2Proof.Machine

theorem State.reg_zero (s : State) : s.reg 0 = s.sp := rfl

theorem State.setReg_zero (s : State) (v : Word) : s.setReg 0 v = s.setSp v := rfl

@[simp] theorem State.sp_setSp (s : State) (v : Word) : (s.setSp v).sp = v := by
  unfold State.sp State.setSp
  split <;> simp_all

/-- A register read depends only on R1 to R15, the stack pointers and PSW.U. -/
theorem State.reg_congr {s t : State} (h1 : t.regs = s.regs) (h2 : t.isp = s.isp) (h3 : t.usp = s.usp)
    (h4 : t.psw.u = s.psw.u) (r : Reg) : t.reg r = s.reg r := by
  simp only [State.reg, State.sp, h1, h2, h3, h4]

theorem State.reg_setReg_same (s : State) (r : Reg) (v : Word) : (s.setReg r v).reg r = v := by
  by_cases h : r.val = 0
  · obtain rfl : r = 0 := Fin.ext h
    exact s.sp_setSp v
  · simp [State.reg, State.setReg, h]

theorem State.reg_setReg_ne (s : State) {r q : Reg} (v : Word) (h : q ≠ r) : (s.setReg r v).reg q = s.reg q := by
  by_cases hq : q.val = 0
  · have hr : r.val ≠ 0 := fun hr => h (Fin.ext (hq.trans hr.symm))
    simp [State.reg, State.setReg, State.sp, hq, hr]
  · by_cases hr : r.val = 0
    · unfold State.reg State.setReg
      rw [dif_neg hq, dif_neg hq, dif_pos hr]
      simp
    · have hne : r.val - 1 ≠ q.val - 1 := fun e => h (Fin.ext (by omega))
      simp [State.reg, State.setReg, hq, hr, hne]

theorem State.reg_setReg (s : State) (r q : Reg) (v : Word) :
    (s.setReg r v).reg q = if q = r then v else s.reg q := by
  split
  · subst_vars
    exact s.reg_setReg_same _ _
  · exact s.reg_setReg_ne v ‹_›

/-- The stack pointer that PSW.U does not select is never written through R0. -/
theorem State.setReg_usp_of_isp (s : State) (r : Reg) (v : Word) (h : s.psw.u = false) :
    (s.setReg r v).usp = s.usp := by
  unfold State.setReg
  split <;> simp [h]

theorem State.setReg_isp_of_usp (s : State) (r : Reg) (v : Word) (h : s.psw.u = true) :
    (s.setReg r v).isp = s.isp := by
  unfold State.setReg
  split <;> simp [h]

theorem State.reg_withPsw (s : State) (p : Psw) (h : p.u = s.psw.u) (r : Reg) : (s.withPsw p).reg r = s.reg r :=
  State.reg_congr (by simp) (by simp) (by simp) (by simpa using h) r

@[simp] theorem State.reg_goto (s : State) (a : Word) (r : Reg) : (s.goto a).reg r = s.reg r := rfl

@[simp] theorem State.reg_advance (s : State) (n : Nat) (r : Reg) : (s.advance n).reg r = s.reg r := rfl

@[simp] theorem State.reg_drawWord (s : State) (r : Reg) : s.drawWord.2.reg r = s.reg r := rfl

@[simp] theorem State.reg_clobberAcc (s : State) (r : Reg) : s.clobberAcc.reg r = s.reg r := rfl

@[simp] theorem State.reg_markRmpa (s : State) (a : Option Word) (r : Reg) : (s.markRmpa a).reg r = s.reg r := rfl

@[simp] theorem State.reg_putBytes (s : State) (a : Word) (l : List Byte) (r : Reg) :
    (s.putBytes a l).reg r = s.reg r := State.reg_congr (by simp) (by simp) (by simp) (by simp) r

@[simp] theorem State.reg_poke (s : State) (a : Word) (sz : Size) (v : Word) (r : Reg) :
    (s.poke a sz v).reg r = s.reg r := s.reg_putBytes a _ r

@[simp] theorem State.reg_sample (s : State) (r : Reg) : s.sample.reg r = s.reg r := rfl

theorem State.reg_clobberReg (s : State) (r q : Reg) :
    (s.clobberReg r).reg q = if q = r then Config.freeWord s.fresh else s.reg q :=
  s.drawWord.2.reg_setReg r q _

end Sys2Proof.Machine
end

