-- ==== Sys2Proof/Laws/Ops.lean ====
section
/-! SUPPORT. One lemma per shared operation that says what it can do; proofs cite these and do not unfold it. -/

namespace Sys2Proof.Machine

/-! ### Checked accesses -/

theorem State.load_eq (s : State) (a : Word) (sz : Size) (k : Word → Out) (h : s.faultAt a sz.bytes .read = false) :
    s.load a sz k = k (s.peek a sz) := by simp [State.load, h]

theorem State.load_fault (s : State) (a : Word) (sz : Size) (k : Word → Out)
    (h : s.faultAt a sz.bytes .read = true) : s.load a sz k = s.raise .access := by simp [State.load, h]

theorem State.store_eq (s : State) (a : Word) (sz : Size) (v : Word) (k : State → Out)
    (h : s.faultAt a sz.bytes .write = false) : s.store a sz v k = k (s.poke a sz v) := by simp [State.store, h]

theorem State.store_fault (s : State) (a : Word) (sz : Size) (v : Word) (k : State → Out)
    (h : s.faultAt a sz.bytes .write = true) : s.store a sz v k = s.raise .access := by simp [State.store, h]

/-- A load goes on with the value read, or takes the access exception. -/
theorem State.load_next {s t : State} {a : Word} {sz : Size} {k : Word → Out} (h : s.load a sz k = .next t) :
    (s.faultAt a sz.bytes .read = false ∧ k (s.peek a sz) = .next t) ∨
      (s.faultAt a sz.bytes .read = true ∧ s.raise .access = .next t) := by
  unfold State.load at h
  split at h
  · exact .inr ⟨‹_›, h⟩
  · exact .inl ⟨Bool.eq_false_iff.2 ‹_›, h⟩

/-- A store goes on with the bytes stored, or takes the access exception. -/
theorem State.store_next {s t : State} {a : Word} {sz : Size} {v : Word} {k : State → Out}
    (h : s.store a sz v k = .next t) :
    (s.faultAt a sz.bytes .write = false ∧ k (s.poke a sz v) = .next t) ∨
      (s.faultAt a sz.bytes .write = true ∧ s.raise .access = .next t) := by
  unfold State.store at h
  split at h
  · exact .inr ⟨‹_›, h⟩
  · exact .inl ⟨Bool.eq_false_iff.2 ‹_›, h⟩

theorem State.loadAll_next {s t : State} {as : List Word} {k : List Word → Out} (h : s.loadAll as k = .next t) :
    ((∀ a ∈ as, s.faultAt a 4 .read = false) ∧ k (as.map fun a => s.peek a .l) = .next t) ∨
      s.raise .access = .next t := by
  unfold State.loadAll at h
  split at h
  · exact .inr h
  · rename_i hf
    exact .inl ⟨by simpa [List.any_eq_true] using hf, h⟩

theorem State.storeAll_next {s t : State} {ws : List (Word × Word)} {k : State → Out}
    (h : s.storeAll ws k = .next t) :
    ((∀ w ∈ ws, s.faultAt w.1 4 .write = false) ∧ k (ws.foldl (fun u w => u.poke w.1 .l w.2) s) = .next t) ∨
      s.raise .access = .next t := by
  unfold State.storeAll at h
  split at h
  · exact .inr h
  · rename_i hf
    exact .inl ⟨by simpa [List.any_eq_true] using hf, h⟩

theorem State.push_next {s t : State} {v : Word} {k : State → Out} (h : s.push v k = .next t) :
    (s.faultAt (s.sp - 4) 4 .write = false ∧ k ((s.poke (s.sp - 4) .l v).setSp (s.sp - 4)) = .next t) ∨
      s.raise .access = .next t :=
  (State.store_next h).imp id And.right

theorem State.popWord_next {s t : State} {k : Word → State → Out} (h : s.popWord k = .next t) :
    (s.faultAt s.sp 4 .read = false ∧ k (s.peek s.sp .l) (s.setSp (s.sp + 4)) = .next t) ∨
      s.raise .access = .next t :=
  (State.load_next h).imp id And.right

/-! ### Exceptions -/

/-- The state exception entry leaves (R607). -/
def State.entered (s : State) (e : Exc) (savedPc : Word) : State :=
  let s1 := s.withPsw s.psw.entered
  let s2 := (s1.poke (s.isp - 4) .l s.psw.toWord).poke (s.isp - 8) .l savedPc
  { s2 with isp := s.isp - 8, psw := { s2.psw with ipl := s.entryIpl e }, pc := s2.peek (s.vectorAddress e) .l,
            waiting := false, rmpa := s.rmpa.suspend savedPc }

/-- Exception entry writes the saved PSW and PC, or is stuck. -/
theorem State.enter_next {s t : State} {e : Exc} {pc : Word} (h : s.enter e pc = .next t) : t = s.entered e pc := by
  unfold State.enter at h
  simp only at h
  split at h
  · cases h
  · injection h with h
    exact h.symm

theorem State.enter_fault {s : State} {e : Exc} {pc : Word} {f : Fault} (h : s.enter e pc = .fault f) :
    f = .stuckEntry := by
  unfold State.enter at h
  simp only at h
  split at h
  · injection h with h
    exact h.symm
  · cases h

theorem State.enter_not_refused {s : State} {e : Exc} {pc : Word} {r : Refusal} : s.enter e pc ≠ .refused r := by
  unfold State.enter
  simp only
  split <;> simp

theorem State.raise_next {s t : State} {e : Exc} (h : s.raise e = .next t) : t = s.entered e s.pc :=
  State.enter_next h

theorem State.privileged_next {s t : State} {k : Out} (h : s.privileged k = .next t) :
    (s.psw.pm = false ∧ k = .next t) ∨ (s.psw.pm = true ∧ t = s.entered .privileged s.pc) := by
  unfold State.privileged at h
  split at h
  · exact .inr ⟨‹_›, State.raise_next h⟩
  · exact .inl ⟨Bool.eq_false_iff.2 ‹_›, h⟩

theorem State.doReset_next {s t : State} (h : s.doReset = .next t) :
    t.psw = Psw.zero ∧ t.fpsw = Fpsw.reset ∧ t.isp = 0 ∧ t.usp = 0 ∧ t.mem = s.mem ∧ t.waiting = false ∧
      t.nmiPending = false ∧ t.product = s.product ∧ t.pc = s.peek 0xFFFFFFFC .l ∧ t.rmpa = RmpaProgress.idle := by
  unfold State.doReset at h
  simp only at h
  split at h
  · cases h
  · injection h with h
    subst h
    exact ⟨rfl, rfl, rfl, rfl, rfl, rfl, rfl, rfl, rfl, rfl⟩

/-! ### RMPA under way -/

/-- Inside the handler no RMPA is under way: one that the handler begins is a start. -/
@[simp] theorem RmpaProgress.suspend_running (r : RmpaProgress) (pc : Word) : (r.suspend pc).running = none := rfl

/-- Entry adds the address of the RMPA under way and takes none away. -/
@[simp] theorem RmpaProgress.mem_suspend (r : RmpaProgress) (pc a : Word) :
    a ∈ (r.suspend pc).suspended ↔ (a = pc ∧ r.running = some pc) ∨ a ∈ r.suspended := by
  unfold RmpaProgress.suspend
  split <;> simp_all [List.mem_insert_iff]

@[simp] theorem RmpaProgress.resume_suspended (r : RmpaProgress) (pc : Word) : (r.resume pc).suspended = r.suspended :=
  rfl

/-- A return makes an RMPA under way just where one was suspended at its address. -/
@[simp] theorem RmpaProgress.resume_running (r : RmpaProgress) (pc : Word) :
    (r.resume pc).running = some pc ↔ pc ∈ r.suspended := by
  unfold RmpaProgress.resume
  split <;> simp_all

/-! ### How an instruction ends -/

theorem State.finish_eq (s : State) (rd : Reg) (r : Word × Psw) (n : Nat) :
    s.finish rd r n = .next (((s.withPsw r.2).setReg rd r.1).advance n) := rfl

theorem State.assign_eq (s : State) (rd : Reg) (v : Word) (n : Nat) :
    s.assign rd v n = .next ((s.setReg rd v).advance n) := rfl

end Sys2Proof.Machine
end

