-- ==== Sys2Proof/Laws/Str.lean ====
section
/-! SUPPORT. What one iteration of RMPA can do. -/

namespace Sys2Proof.Machine

theorem State.unlessDone_done (s : State) (k : Out) (h : s.reg 3 = 0) : s.unlessDone k = .next (s.advance 2) :=
  if_pos h

theorem State.unlessDone_eq (s : State) (k : Out) (h : s.reg 3 ≠ 0) : s.unlessDone k = k := if_neg h

/-- The state one iteration of RMPA leaves (R260). -/
def State.rmpaIterated (s : State) (sz : Size) : State :=
  let acc := rmpaStep s.rmpaSum (sz.signExtend (s.peek (s.reg 1) sz)) (sz.signExtend (s.peek (s.reg 2) sz))
  let t := (s.setPointers (s.reg 1 + sz.word) (s.reg 2 + sz.word) (s.reg 3 - 1)).setRmpaSum acc
  if s.reg 3 - 1 == 0 then t.rmpaEnd acc else t.markRmpa (some s.pc)

/-- RMPA ends at once, iterates where it is under way or its operands are admitted, or takes the access exception. -/
theorem execRmpa_next {s t : State} {sz : Size} (h : execRmpa sz s = .next t) :
    (s.reg 3 = 0 ∧ t = (s.markRmpa none).advance 2) ∨
    (s.reg 3 ≠ 0 ∧ (s.rmpaUnderWay = true ∨ s.rmpaAdmits = true) ∧
      (t = s.rmpaIterated sz ∨ t = s.entered .access s.pc)) := by
  unfold execRmpa at h
  by_cases h3 : s.reg 3 = 0
  · rw [State.unlessDone_done _ _ (by simpa using h3)] at h
    exact .inl ⟨h3, by simpa using h.symm⟩
  · rw [State.unlessDone_eq _ _ (by simpa using h3)] at h
    split at h
    · refine .inr ⟨h3, by simp_all, ?_⟩
      rcases State.load_next h with ⟨-, h⟩ | ⟨-, h⟩
      · rcases State.load_next h with ⟨-, h⟩ | ⟨-, h⟩
        · exact .inl (by simpa [State.rmpaIterated] using h.symm)
        · exact .inr (State.raise_next h)
      · exact .inr (State.raise_next h)
    · cases h

/-- RMPA under way is never refused; a start is refused exactly where its operands are not admitted. -/
theorem execRmpa_refused {s : State} {sz : Size} {r : Refusal} (h : execRmpa sz s = .refused r) :
    r = .rmpaOperands ∧ s.reg 3 ≠ 0 ∧ s.rmpaUnderWay = false ∧ s.rmpaAdmits = false := by
  unfold execRmpa at h
  by_cases h3 : s.reg 3 = 0
  · rw [State.unlessDone_done _ _ (by simpa using h3)] at h
    cases h
  · rw [State.unlessDone_eq _ _ (by simpa using h3)] at h
    split at h
    · unfold State.load at h
      split at h
      · exact absurd h State.enter_not_refused
      · split at h
        · exact absurd h State.enter_not_refused
        · cases h
    · injection h with h
      simp_all

end Sys2Proof.Machine
end

