-- ==== Sys2Proof/Tests/Slice0.lean ====
section
/-! SUPPORT. The model's own tests. Words are written out from the encodings of spec/30_encoding.md and
spec/opcode_table.json; the vectors are those of spec/95_test_vectors.md and spec/96_test_vectors_fp.md by their
numbers, and the entries of spec/60_exceptions.md R640. The witnesses at the end meet the hypotheses of the
obligations. -/

namespace Sys2Proof.Tests

open Sys2Proof Sys2Proof.Machine

/-- The default product with big-endian data. -/
def bigProduct : Product := { Product.default with bigEndian := true }

/-- The vectors' machine: code at 1000h, ISP = 2000h, USP = 7000h, INTB = 400h, registers and data as given. -/
def machine (code : List Byte) (regs : List (Reg × Word)) (data : List (Word × List Byte)) : State :=
  regs.foldl (fun s r => s.setReg r.1 r.2)
    (data.foldl (fun s d => s.putBytes d.1 d.2)
      ({ State.reset with pc := 0x1000, isp := 0x2000, usp := 0x7000, intb := 0x400 }.putBytes 0x1000 code))

/-- One step ends in a next state that passes. -/
def ends (s : State) (p : State → Bool) : Bool :=
  match step s with
  | .next t => p t
  | .fault _ => false
  | .refused _ => false

/-! ### Ill-formed instructions -/

theorem test_wf_pair : (Instr.emulRm (.reg 1) 15).wellFormed = false ∧ (Instr.emulImm (.s8 1) 15).wellFormed = false ∧
    (Instr.emuluMx .w 1 .none 15).wellFormed = false ∧ (Instr.emulRm (.reg 15) 14).wellFormed = true := by decide

theorem test_wf_mov : (Instr.movImmMem .b (.s16 1) 1 .none).wellFormed = false ∧
    (Instr.movImmMem .w (.s24 1) 1 .none).wellFormed = false ∧
    (Instr.movImmMem .l (.i32 1) 1 .none).wellFormed = true := by decide

theorem test_wf_creg : (Instr.popc .pc).wellFormed = false ∧ (Instr.mvtcR 1 .pc).wellFormed = false ∧
    (Instr.mvtcImm (.s8 1) .pc).wellFormed = false ∧ (Instr.pushc .pc).wellFormed = true := by decide

theorem test_wf_range : (Instr.pushm 0 3).wellFormed = false ∧ (Instr.pushm 15 15).wellFormed = false ∧
    (Instr.popm 1 0).wellFormed = false ∧ (Instr.popm 1 1).wellFormed = false ∧
    (Instr.popm 1 15).wellFormed = true := by decide

theorem test_wf_rtsd : (Instr.rtsdRange 4 0 3).wellFormed = false ∧ (Instr.rtsdRange 4 1 0).wellFormed = false ∧
    (Instr.rtsdRange 4 15 15).wellFormed = true := by decide

theorem test_wf_sccnd : (Instr.sccnd .eq .b (.reg 1)).wellFormed = false ∧
    (Instr.sccnd .eq .w (.reg 1)).wellFormed = false ∧ (Instr.sccnd .eq .l (.reg 1)).wellFormed = true := by decide

/-! ### Decoding -/

/-- ABS, ADC, ADD, AND. -/
theorem test_decode_arithmetic_a_1 :
    decode Product.default [0x7E, 0x23] = .instr (.absR 3) [] ∧
    decode Product.default [0xFC, 0x0F, 0x8A] = .instr (.absRR 8 10) [] ∧
    decode Product.default [0xFD, 0x7C, 0x22, 0x81, 0xDE, 0xBC] = .instr (.adcImm (.s24 0xBCDE81) 2) [] ∧
    decode Product.default [0xFC, 0x0B, 0x79] = .instr (.adcRR 7 9) [] ∧
    decode Product.default [0x06, 0xA2, 0x02, 0xE1, 0xF3, 0x84] = .instr (.adcMem 14 (.d16 0x84F3) 1) [] ∧
    decode Product.default [0x62, 0x68] = .instr (.addUimm4 6 8) [] ∧
    decode Product.default [0x4B, 0xD9] = .instr (.addRm (.reg 13) 9) [] ∧
    decode Product.default [0x06, 0xCA, 0x57, 0xF3, 0x84] = .instr (.addMx .uw 5 (.d16 0x84F3) 7) [] ∧
    decode Product.default [0x71, 0x1E, 0x81] = .instr (.addImm3 (.s8 0x81) 1 14) [] ∧
    decode Product.default [0xFF, 0x26, 0x48] = .instr (.addRRR 4 8 6) [] ∧
    decode Product.default [0x64, 0xDD] = .instr (.andUimm4 0xD 13) [] ∧
    decode Product.default [0x74, 0x25, 0x81, 0xDE, 0xBC, 0x9A] = .instr (.andImm (.i32 0x9ABCDE81) 5) [] := by
  decide

/-- AND, CMP, DIV, DIVU. -/
theorem test_decode_arithmetic_a_2 :
    decode Product.default [0x53, 0xAC] = .instr (.andRm (.reg 10) 12) [] ∧
    decode Product.default [0x06, 0x52, 0x24, 0xF3, 0x84] = .instr (.andMx .w 2 (.d16 0x84F3) 4) [] ∧
    decode Product.default [0xFF, 0x4B, 0x9D] = .instr (.andRRR 9 13 11) [] ∧
    decode Product.default [0x61, 0x65] = .instr (.cmpUimm4 6 5) [] ∧
    decode Product.default [0x75, 0x5C, 0x96] = .instr (.cmpUimm8 0x96 12) [] ∧
    decode Product.default [0x76, 0x04, 0x81, 0xDE] = .instr (.cmpImm (.s16 0xDE81) 4) [] ∧
    decode Product.default [0x47, 0x7B] = .instr (.cmpRm (.reg 7) 11) [] ∧
    decode Product.default [0x06, 0xC6, 0xE3, 0xF3, 0x84] = .instr (.cmpMx .uw 14 (.d16 0x84F3) 3) [] ∧
    decode Product.default [0xFD, 0x74, 0x88, 0x81] = .instr (.divImm (.s8 0x81) 8) [] ∧
    decode Product.default [0xFC, 0x23, 0xD9] = .instr (.divRm (.reg 13) 9) [] ∧
    decode Product.default [0x06, 0xA2, 0x08, 0x57, 0xF3, 0x84] = .instr (.divMx .l 5 (.d16 0x84F3) 7) [] ∧
    decode Product.default [0xFD, 0x70, 0x9E, 0x81, 0xDE, 0xBC,
      0x9A] = .instr (.divuImm (.i32 0x9ABCDE81) 14) [] := by
  decide

/-- DIVU, EMUL, EMULU, MAX, MIN. -/
theorem test_decode_arithmetic_a_3 :
    decode Product.default [0xFC, 0x27, 0x46] = .instr (.divuRm (.reg 4) 6) [] ∧
    decode Product.default [0x06, 0x62, 0x09, 0xBD, 0xF3, 0x84] = .instr (.divuMx .w 11 (.d16 0x84F3) 13) [] ∧
    decode Product.default [0xFD, 0x7C, 0x65, 0x81, 0xDE, 0xBC] = .instr (.emulImm (.s24 0xBCDE81) 5) [] ∧
    decode Product.default [0xFC, 0x1B, 0xAC] = .instr (.emulRm (.reg 10) 12) [] ∧
    decode Product.default [0x06, 0x22, 0x06, 0x24, 0xF3, 0x84] = .instr (.emulMx .b 2 (.d16 0x84F3) 4) [] ∧
    decode Product.default [0xFD, 0x78, 0x7B, 0x81, 0xDE] = .instr (.emuluImm (.s16 0xDE81) 11) [] ∧
    decode Product.default [0xFC, 0x1F, 0x13] = .instr (.emuluRm (.reg 1) 3) [] ∧
    decode Product.default [0x06, 0xE2, 0x07, 0x8A, 0xF3, 0x84] = .instr (.emuluMx .uw 8 (.d16 0x84F3) 10) [] ∧
    decode Product.default [0xFD, 0x74, 0x42, 0x81] = .instr (.maxImm (.s8 0x81) 2) [] ∧
    decode Product.default [0xFC, 0x13, 0x79] = .instr (.maxRm (.reg 7) 9) [] ∧
    decode Product.default [0x06, 0xA2, 0x04, 0xE1, 0xF3, 0x84] = .instr (.maxMx .l 14 (.d16 0x84F3) 1) [] ∧
    decode Product.default [0xFD, 0x70, 0x58, 0x81, 0xDE, 0xBC, 0x9A] = .instr (.minImm (.i32 0x9ABCDE81) 8) [] := by
  decide

/-- MIN, MUL, NEG, NOP, NOT. -/
theorem test_decode_arithmetic_a_4 :
    decode Product.default [0xFC, 0x17, 0xD9] = .instr (.minRm (.reg 13) 9) [] ∧
    decode Product.default [0x06, 0x62, 0x05, 0x57, 0xF3, 0x84] = .instr (.minMx .w 5 (.d16 0x84F3) 7) [] ∧
    decode Product.default [0x63, 0xDE] = .instr (.mulUimm4 0xD 14) [] ∧
    decode Product.default [0x74, 0x16, 0x81, 0xDE, 0xBC, 0x9A] = .instr (.mulImm (.i32 0x9ABCDE81) 6) [] ∧
    decode Product.default [0x4E, 0xBD, 0xF3, 0x84] = .instr (.mulRm (.mem 11 (.d16 0x84F3)) 13) [] ∧
    decode Product.default [0x06, 0x4C, 0x35] = .instr (.mulMx .w 3 .none 5) [] ∧
    decode Product.default [0xFF, 0x3C, 0xAE] = .instr (.mulRRR 10 14 12) [] ∧
    decode Product.default [0x7E, 0x14] = .instr (.negR 4) [] ∧
    decode Product.default [0xFC, 0x07, 0x9B] = .instr (.negRR 9 11) [] ∧
    decode Product.default [0x03] = .instr .nop [] ∧
    decode Product.default [0x7E, 0x0A] = .instr (.notR 10) [] ∧
    decode Product.default [0xFC, 0x3B, 0x92] = .instr (.notRR 9 2) [] := by
  decide

/-- OR. -/
theorem test_decode_arithmetic_a_5 :
    decode Product.default [0x65, 0xD9] = .instr (.orUimm4 0xD 9) [] ∧
    decode Product.default [0x76, 0x31, 0x81, 0xDE] = .instr (.orImm (.s16 0xDE81) 1) [] ∧
    decode Product.default [0x54, 0x68] = .instr (.orRm (.mem 6 .none) 8) [] ∧
    decode Product.default [0x06, 0xD5, 0xD9, 0xF3] = .instr (.orMx .uw 13 (.d8 0xF3) 9) [] ∧
    decode Product.default [0xFF, 0x57, 0x59] = .instr (.orRRR 5 9 7) [] := by
  decide

/-- RMPA, ROLC, RORC, ROTL, ROTR, SAT, SATR, SBB, SHAR. -/
theorem test_decode_arithmetic_b_1 :
    decode Product.default [0x7F, 0x8C] = .instr (.rmpa .b) [] ∧
    decode Product.default [0x7E, 0x56] = .instr (.rolc 6) [] ∧
    decode Product.default [0x7E, 0x4D] = .instr (.rorc 13) [] ∧
    decode Product.default [0xFD, 0x6E, 0xD5] = .instr (.rotlImm 0xD 5) [] ∧
    decode Product.default [0xFD, 0x66, 0xAC] = .instr (.rotlRR 10 12) [] ∧
    decode Product.default [0xFD, 0x6C, 0xD4] = .instr (.rotrImm 0xD 4) [] ∧
    decode Product.default [0xFD, 0x64, 0x9B] = .instr (.rotrRR 9 11) [] ∧
    decode Product.default [0x7E, 0x33] = .instr (.sat 3) [] ∧
    decode Product.default [0x7F, 0x93] = .instr .satr [] ∧
    decode Product.default [0xFC, 0x03, 0x92] = .instr (.sbbRR 9 2) [] ∧
    decode Product.default [0x06, 0xA1, 0x00, 0x79, 0xF3] = .instr (.sbbMem 7 (.d8 0xF3) 9) [] ∧
    decode Product.default [0x6A, 0xD1] = .instr (.sharImm 0xD 1) [] := by
  decide

/-- SHAR, SHLL, SHLR, SUB. -/
theorem test_decode_arithmetic_b_2 :
    decode Product.default [0xFD, 0x61, 0x68] = .instr (.sharRR 6 8) [] ∧
    decode Product.default [0xFD, 0xAD, 0x29] = .instr (.sharImm3 0xD 2 9) [] ∧
    decode Product.default [0x6D, 0x67] = .instr (.shllImm 0x16 7) [] ∧
    decode Product.default [0xFD, 0x62, 0xCE] = .instr (.shllRR 12 14) [] ∧
    decode Product.default [0xFD, 0xD6, 0x86] = .instr (.shllImm3 0x16 8 6) [] ∧
    decode Product.default [0x68, 0xDD] = .instr (.shlrImm 0xD 13) [] ∧
    decode Product.default [0xFD, 0x60, 0x35] = .instr (.shlrRR 3 5) [] ∧
    decode Product.default [0xFD, 0x8D, 0xEC] = .instr (.shlrImm3 0xD 14 12) [] ∧
    decode Product.default [0x60, 0x64] = .instr (.subUimm4 6 4) [] ∧
    decode Product.default [0x40, 0x9B] = .instr (.subRm (.mem 9 .none) 11) [] ∧
    decode Product.default [0x06, 0xC1, 0x13, 0xF3] = .instr (.subMx .uw 1 (.d8 0xF3) 3) [] ∧
    decode Product.default [0xFF, 0x0A, 0x8C] = .instr (.subRRR 8 12 10) [] := by
  decide

/-- TST, XOR. -/
theorem test_decode_arithmetic_b_3 :
    decode Product.default [0xFD, 0x78, 0xC4, 0x81, 0xDE] = .instr (.tstImm (.s16 0xDE81) 4) [] ∧
    decode Product.default [0xFC, 0x33, 0x7B] = .instr (.tstRm (.reg 7) 11) [] ∧
    decode Product.default [0x06, 0xE2, 0x0C, 0xE3, 0xF3, 0x84] = .instr (.tstMx .uw 14 (.d16 0x84F3) 3) [] ∧
    decode Product.default [0xFD, 0x74, 0xD8, 0x81] = .instr (.xorImm (.s8 0x81) 8) [] ∧
    decode Product.default [0xFC, 0x37, 0xD9] = .instr (.xorRm (.reg 13) 9) [] ∧
    decode Product.default [0x06, 0xA2, 0x0D, 0x57, 0xF3, 0x84] = .instr (.xorMx .l 5 (.d16 0x84F3) 7) [] := by
  decide

/-- FADD, FCMP, FDIV, FMUL, FSUB, FTOI, ROUND. -/
theorem test_decode_float_1 :
    decode Product.default [0xFD, 0x72, 0x2E, 0xDB, 0x0F, 0x49, 0xC0] = .instr (.faddImm 0xC0490FDB 14) [] ∧
    decode Product.default [0xFC, 0x8B, 0x46] = .instr (.faddRm (.reg 4) 6) [] ∧
    decode Product.default [0xFD, 0x72, 0x19, 0xDB, 0x0F, 0x49, 0xC0] = .instr (.fcmpImm 0xC0490FDB 9) [] ∧
    decode Product.default [0xFC, 0x84, 0x37] = .instr (.fcmpRm (.mem 3 .none) 7) [] ∧
    decode Product.default [0xFD, 0x72, 0x4C, 0xDB, 0x0F, 0x49, 0xC0] = .instr (.fdivImm 0xC0490FDB 12) [] ∧
    decode Product.default [0xFC, 0x92, 0x24, 0xF3, 0x84] = .instr (.fdivRm (.mem 2 (.d16 0x84F3)) 4) [] ∧
    decode Product.default [0xFD, 0x72, 0x3B, 0xDB, 0x0F, 0x49, 0xC0] = .instr (.fmulImm 0xC0490FDB 11) [] ∧
    decode Product.default [0xFC, 0x8F, 0x13] = .instr (.fmulRm (.reg 1) 3) [] ∧
    decode Product.default [0xFD, 0x72, 0x0A, 0xDB, 0x0F, 0x49, 0xC0] = .instr (.fsubImm 0xC0490FDB 10) [] ∧
    decode Product.default [0xFC, 0x80, 0x92] = .instr (.fsubRm (.mem 9 .none) 2) [] ∧
    decode Product.default [0xFC, 0x97, 0x79] = .instr (.ftoiRm (.reg 7) 9) [] ∧
    decode Product.default [0xFC, 0x9A, 0xE1, 0xF3, 0x84] = .instr (.roundRm (.mem 14 (.d16 0x84F3)) 1) [] := by
  decide

/-- ITOF. -/
theorem test_decode_float_2 :
    decode Product.default [0xFC, 0x44, 0x68] = .instr (.itofRm (.mem 6 .none) 8) [] ∧
    decode Product.default [0x06, 0x21, 0x11, 0xD9, 0xF3] = .instr (.itofMx .b 13 (.d8 0xF3) 9) [] := by
  decide

/-- MOV. -/
theorem test_decode_transfer_1 :
    decode Product.default [0xA5, 0xB1] = .instr (.movStoreD5 .l 1 0x16 3) [] ∧
    decode Product.default [0x8D, 0x93] = .instr (.movLoadD5 .b 0x16 1 3) [] ∧
    decode Product.default [0x66, 0x66] = .instr (.movUimm4 6 6) [] ∧
    decode Product.default [0x3E, 0xB6, 0x96] = .instr (.movImmD5 .l 0x96 0x16 3) [] ∧
    decode Product.default [0x75, 0x45, 0x96] = .instr (.movUimm8 0x96 5) [] ∧
    decode Product.default [0xFB, 0xCE, 0x81, 0xDE, 0xBC] = .instr (.movImm (.s24 0xBCDE81) 12) [] ∧
    decode Product.default [0xEF, 0x24] = .instr (.movRR .l 2 4) [] ∧
    decode Product.default [0xF8, 0xB2, 0x81, 0xDE, 0xBC,
      0x9A] = .instr (.movImmMem .l (.i32 0x9ABCDE81) 11 .none) [] ∧
    decode Product.default [0xDD, 0x13, 0xF3] = .instr (.movLoad .w 1 (.d8 0xF3) 3) [] ∧
    decode Product.default [0xFE, 0x64, 0x7A] = .instr (.movLoadIdx .l 4 7 10) [] ∧
    decode Product.default [0xCB, 0x29, 0xB2, 0xA1] = .instr (.movStore .b 9 2 (.d16 0xA1B2)) [] ∧
    decode Product.default [0xFE, 0x14, 0x77] = .instr (.movStoreIdx .w 7 4 7) [] := by
  decide

/-- MOV, MOVU, POP, POPC, POPM, PUSH. -/
theorem test_decode_transfer_2 :
    decode Product.default [0xE9, 0xE1, 0xF3, 0xB2, 0xA1] = .instr (.movMemMem .l 14 (.d8 0xF3) 1 (.d16 0xA1B2)) [] ∧
    decode Product.default [0xFD, 0x24, 0x86] = .instr (.movStoreAuto .preDec .b 6 8) [] ∧
    decode Product.default [0xFD, 0x2D, 0xD9] = .instr (.movLoadAuto .preDec .w 13 9) [] ∧
    decode Product.default [0xBD, 0x93] = .instr (.movuLoadD5 .w 0x16 1 3) [] ∧
    decode Product.default [0x58, 0xCE] = .instr (.movuRm .b (.mem 12 .none) 14) [] ∧
    decode Product.default [0xFE, 0xD4, 0x76] = .instr (.movuLoadIdx .w 4 7 6) [] ∧
    decode Product.default [0xFD, 0x3C, 0xBD] = .instr (.movuLoadAuto .preDec .b 11 13) [] ∧
    decode Product.default [0x7E, 0xB5] = .instr (.pop 5) [] ∧
    decode Product.default [0x7E, 0xEA] = .instr (.popc .isp) [] ∧
    decode Product.default [0x6F, 0x2D] = .instr (.popm 2 13) [] ∧
    decode Product.default [0x7E, 0x89] = .instr (.pushR .b 9) [] ∧
    decode Product.default [0xF5, 0x19, 0xF3] = .instr (.pushMem .w 1 (.d8 0xF3)) [] := by
  decide

/-- PUSHC, PUSHM, REVL, REVW, SCCnd, STNZ, STZ, XCHG. -/
theorem test_decode_transfer_3 :
    decode Product.default [0x7E, 0xC2] = .instr (.pushc .usp) [] ∧
    decode Product.default [0x6E, 0x2D] = .instr (.pushm 2 13) [] ∧
    decode Product.default [0xFD, 0x67, 0x79] = .instr (.revl 7 9) [] ∧
    decode Product.default [0xFD, 0x65, 0xE1] = .instr (.revw 14 1) [] ∧
    decode Product.default [0xFC, 0xD5, 0x89, 0xF3] = .instr (.sccnd .lt .w (.mem 8 (.d8 0xF3))) [] ∧
    decode Product.default [0xFD, 0x7C, 0xF9, 0x81, 0xDE, 0xBC] = .instr (.stnz (.s24 0xBCDE81) 9) [] ∧
    decode Product.default [0xFD, 0x70, 0xE7, 0x81, 0xDE, 0xBC, 0x9A] = .instr (.stz (.i32 0x9ABCDE81) 7) [] ∧
    decode Product.default [0xFC, 0x40, 0xCE] = .instr (.xchgRm (.mem 12 .none) 14) [] ∧
    decode Product.default [0x06, 0x61, 0x10, 0x46, 0xF3] = .instr (.xchgMx .w 4 (.d8 0xF3) 6) [] := by
  decide

/-- BCnd, BRA, BSR, JMP. -/
theorem test_decode_branch_1 :
    decode Product.default [0x15] = .instr (.bcndS .eq 5) [] ∧
    decode Product.default [0x2B, 0x96] = .instr (.bcndB .le 0x96) [] ∧
    decode Product.default [0x3A, 0xE1, 0x8C] = .instr (.bcndW .eq 0x8CE1) [] ∧
    decode Product.default [0x0D] = .instr (.braS 5) [] ∧
    decode Product.default [0x2E, 0x96] = .instr (.braB 0x96) [] ∧
    decode Product.default [0x38, 0xE1, 0x8C] = .instr (.braW 0x8CE1) [] ∧
    decode Product.default [0x04, 0xC7, 0xA5, 0x93] = .instr (.braA 0x93A5C7) [] ∧
    decode Product.default [0x7F, 0x49] = .instr (.braL 9) [] ∧
    decode Product.default [0x39, 0xE1, 0x8C] = .instr (.bsrW 0x8CE1) [] ∧
    decode Product.default [0x05, 0xC7, 0xA5, 0x93] = .instr (.bsrA 0x93A5C7) [] ∧
    decode Product.default [0x7F, 0x56] = .instr (.bsrL 6) [] ∧
    decode Product.default [0x7F, 0x0D] = .instr (.jmp 13) [] := by
  decide

/-- JSR, RTS, RTSD. -/
theorem test_decode_branch_2 :
    decode Product.default [0x7F, 0x15] = .instr (.jsr 5) [] ∧
    decode Product.default [0x02] = .instr .rts [] ∧
    decode Product.default [0x67, 0x96] = .instr (.rtsd 0x96) [] ∧
    decode Product.default [0x3F, 0x6C, 0x96] = .instr (.rtsdRange 0x96 6 12) [] := by
  decide

/-- BCLR, BSET, BTST. -/
theorem test_decode_bit_1 :
    decode Product.default [0xF0, 0x5D] = .instr (.bclrImmMem 5 5 .none) [] ∧
    decode Product.default [0xFC, 0x65, 0xCA, 0xF3] = .instr (.bclrRMem 10 12 (.d8 0xF3)) [] ∧
    decode Product.default [0x7A, 0xD4] = .instr (.bclrImm 0xD 4) [] ∧
    decode Product.default [0xFC, 0x67, 0xB9] = .instr (.bclrRR 9 11) [] ∧
    decode Product.default [0xF1, 0x35, 0xF3] = .instr (.bsetImmMem 5 3 (.d8 0xF3)) [] ∧
    decode Product.default [0xFC, 0x62, 0xA8, 0xF3, 0x84] = .instr (.bsetRMem 8 10 (.d16 0x84F3)) [] ∧
    decode Product.default [0x78, 0xD2] = .instr (.bsetImm 0xD 2) [] ∧
    decode Product.default [0xFC, 0x63, 0x97] = .instr (.bsetRR 7 9) [] ∧
    decode Product.default [0xF6, 0x35, 0xF3, 0x84] = .instr (.btstImmMem 5 3 (.d16 0x84F3)) [] ∧
    decode Product.default [0xFC, 0x68, 0xA6] = .instr (.btstRMem 6 10 .none) [] ∧
    decode Product.default [0x7C, 0xD2] = .instr (.btstImm 0xD 2) [] ∧
    decode Product.default [0xFC, 0x6B, 0x95] = .instr (.btstRR 5 9) [] := by
  decide

/-- BMCnd, BNOT. -/
theorem test_decode_bit_2 :
    decode Product.default [0xFC, 0xF4, 0xE6] = .instr (.bmcndMem .pz 5 14 .none) [] ∧
    decode Product.default [0xFD, 0xF6, 0xB6] = .instr (.bmcndR .le 0x16 6) [] ∧
    decode Product.default [0xFC, 0xF6, 0xDF, 0xF3, 0x84] = .instr (.bnotImmMem 5 13 (.d16 0x84F3)) [] ∧
    decode Product.default [0xFC, 0x6C, 0x53] = .instr (.bnotRMem 3 5 .none) [] ∧
    decode Product.default [0xFD, 0xED, 0xFC] = .instr (.bnotImm 0xD 12) [] ∧
    decode Product.default [0xFC, 0x6F, 0x42] = .instr (.bnotRR 2 4) [] := by
  decide

/-- SCMPU, SMOVB, SMOVF, SMOVU, SSTR, SUNTIL, SWHILE. -/
theorem test_decode_string_1 :
    decode Product.default [0x7F, 0x83] = .instr .scmpu [] ∧
    decode Product.default [0x7F, 0x8B] = .instr .smovb [] ∧
    decode Product.default [0x7F, 0x8F] = .instr .smovf [] ∧
    decode Product.default [0x7F, 0x87] = .instr .smovu [] ∧
    decode Product.default [0x7F, 0x89] = .instr (.sstr .w) [] ∧
    decode Product.default [0x7F, 0x82] = .instr (.suntil .l) [] ∧
    decode Product.default [0x7F, 0x84] = .instr (.swhile .b) [] := by
  decide

/-- SETPSW, CLRPSW, MVFC, MVTC, MVTIPL, BRK, INT, RTE, RTFI, WAIT. -/
theorem test_decode_system_1 :
    decode Product.default [0x7F, 0xA9] = .instr (.setpsw .u) [] ∧
    decode Product.default [0x7F, 0xB0] = .instr (.clrpsw .c) [] ∧
    decode Product.default [0xFD, 0x6A, 0xAE] = .instr (.mvfc .isp 14) [] ∧
    decode Product.default [0xFD, 0x7F, 0x0B, 0x81, 0xDE, 0xBC] = .instr (.mvtcImm (.s24 0xBCDE81) .fintv) [] ∧
    decode Product.default [0xFD, 0x68, 0xB0] = .instr (.mvtcR 11 .psw) [] ∧
    decode Product.default [0x75, 0x70, 0x0D] = .instr (.mvtipl 0xD) [] ∧
    decode Product.default [0x00] = .instr .brk [] ∧
    decode Product.default [0x75, 0x60, 0x96] = .instr (.int 0x96) [] ∧
    decode Product.default [0x7F, 0x95] = .instr .rte [] ∧
    decode Product.default [0x7F, 0x94] = .instr .rtfi [] ∧
    decode Product.default [0x7F, 0x96] = .instr .wait [] := by
  decide

/-- MACHI, MACLO, MULHI, MULLO, MVFACHI, MVFACMI, MVTACHI, MVTACLO, RACW. -/
theorem test_decode_dsp_1 :
    decode Product.default [0xFD, 0x04, 0x94] = .instr (.machi 9 4) [] ∧
    decode Product.default [0xFD, 0x05, 0x7B] = .instr (.maclo 7 11) [] ∧
    decode Product.default [0xFD, 0x00, 0xE3] = .instr (.mulhi 14 3) [] ∧
    decode Product.default [0xFD, 0x01, 0x6A] = .instr (.mullo 6 10) [] ∧
    decode Product.default [0xFD, 0x1F, 0x09] = .instr (.mvfachi 9) [] ∧
    decode Product.default [0xFD, 0x1F, 0x27] = .instr (.mvfacmi 7) [] ∧
    decode Product.default [0xFD, 0x17, 0x0C] = .instr (.mvtachi 12) [] ∧
    decode Product.default [0xFD, 0x17, 0x14] = .instr (.mvtaclo 4) [] ∧
    decode Product.default [0xFD, 0x18, 0x10] = .instr (.racw 1) [] := by
  decide

/-- Words as the opcode table numbers them: the first opcode byte is the most significant (log entry 18). -/
theorem test_decode_table_word : decodeTableWord 8 0x03 = some .nop ∧
    decodeTableWord 24 0xFC0B12 = some (.adcRR 1 2) ∧ decodeTableWord 24 0xFD7020 = some (.adcImm (.i32 0) 0) ∧
    decodeTableWord 8 0x01 = none := by decide

/-- The word placed for the host is the one the next step runs. -/
theorem test_fetch_word : ends (State.reset.withFetchWord 16 0x62F2) (fun t => t.reg 2 == 15 &&
  t.pc == 2) = true := by
  decide

/-! ### The vectors of the spec -/

/-- Vector 2: `ABS R2`. -/
theorem test_vector_2_abs :
    ends (machine [0x7E, 0x22] [(2, 0x80000000)] [])
      (fun t => t.pc == 0x1002 && !t.psw.c && !t.psw.z && t.psw.s && t.psw.o) = true := by
  decide

/-- Vector 3: `ABS R1, R2`. -/
theorem test_vector_3_abs :
    ends ({ machine [0xFC, 0x0F, 0x12] [(1, 0x0), (2, 0x5)] [] with
        psw := Psw.ofWord false 0x1 })
      (fun t => t.reg 2 == 0x0 && t.pc == 0x1003 && t.psw.c && t.psw.z && !t.psw.s && !t.psw.o) = true := by
  decide

/-- Vector 5: `ADC #127, R2`. -/
theorem test_vector_5_adc :
    ends ({ machine [0xFD, 0x74, 0x22, 0x7F] [(2, 0x7FFFFF80)] [] with
        psw := Psw.ofWord false 0x1 })
      (fun t => t.reg 2 == 0x80000000 && t.pc == 0x1004 && !t.psw.c && !t.psw.z && t.psw.s && t.psw.o) = true := by
  decide

/-- Vector 6: `ADC [R1], R2`. -/
theorem test_vector_6_adc :
    ends (machine [0x06, 0xA0, 0x02, 0x12] [(1, 0x3000), (2, 0x1)] [(0x3000, [0xFF, 0xFF, 0xFF, 0xFF])])
      (fun t => t.reg 2 == 0x0 && t.pc == 0x1004 && t.psw.c && t.psw.z && !t.psw.s && !t.psw.o) = true := by
  decide

/-- Vector 8: `ADD R1, R2`. -/
theorem test_vector_8_add :
    ends (machine [0x4B, 0x12] [(1, 0x1), (2, 0x7FFFFFFF)] [])
      (fun t => t.reg 2 == 0x80000000 && t.pc == 0x1002 && !t.psw.c && !t.psw.z && t.psw.s && t.psw.o) = true := by
  decide

/-- Vector 11: `ADD #-1, R1, R2`. -/
theorem test_vector_11_add :
    ends (machine [0x71, 0x12, 0xFF] [(1, 0x1), (2, 0x55)] [])
      (fun t => t.reg 2 == 0x0 && t.pc == 0x1003 && t.psw.c && t.psw.z && !t.psw.s && !t.psw.o) = true := by
  decide

/-- Vector 22: `AND #-256, R2`. -/
theorem test_vector_22_and :
    ends (machine [0x76, 0x22, 0x00, 0xFF] [(2, 0x12345678)] [])
      (fun t => t.reg 2 == 0x12345600 && t.pc == 0x1004 && !t.psw.c && !t.psw.z && !t.psw.s && !t.psw.o) = true := by
  decide

/-- Vector 23: `AND R1, R2, R3`. -/
theorem test_vector_23_and :
    ends ({ machine [0xFF, 0x43, 0x12] [(1, 0xF0F0F0F0), (2, 0xF0F0F0F), (3, 0x55)] [] with
        psw := Psw.ofWord false 0x9 })
      (fun t => t.reg 3 == 0x0 && t.pc == 0x1003 && t.psw.c && t.psw.z && !t.psw.s && t.psw.o) = true := by
  decide

/-- Vector 27: `CMP R1, R2`. -/
theorem test_vector_27_cmp :
    ends (machine [0x47, 0x12] [(1, 0x1), (2, 0x80000000)] [])
      (fun t => t.pc == 0x1002 && t.psw.c && !t.psw.z && !t.psw.s && t.psw.o) = true := by
  decide

/-- Vector 28: `CMP R1, R2`. -/
theorem test_vector_28_cmp :
    ends (machine [0x47, 0x12] [(1, 0xFFFFFFFF), (2, 0x0)] [])
      (fun t => t.pc == 0x1002 && !t.psw.c && !t.psw.z && !t.psw.s && !t.psw.o) = true := by
  decide

/-- Vector 29: `DIV R1, R2`. -/
theorem test_vector_29_div :
    ends (machine [0xFC, 0x23, 0x12] [(1, 0x2), (2, 0xFFFFFFF9)] [])
      (fun t => t.reg 2 == 0xFFFFFFFD && t.pc == 0x1003 && !t.psw.c && !t.psw.z && !t.psw.s && !t.psw.o) = true := by
  decide

/-- Vector 32: `DIV #-3, R2`. -/
theorem test_vector_32_div :
    ends (machine [0xFD, 0x74, 0x82, 0xFD] [(2, 0x7)] [])
      (fun t => t.reg 2 == 0xFFFFFFFE && t.pc == 0x1004 && !t.psw.c && !t.psw.z && !t.psw.s && !t.psw.o) = true := by
  decide

/-- Vector 33: `DIVU #10, R2`. -/
theorem test_vector_33_divu :
    ends (machine [0xFD, 0x74, 0x92, 0x0A] [(2, 0x64)] [])
      (fun t => t.reg 2 == 0xA && t.pc == 0x1004 && !t.psw.c && !t.psw.z && !t.psw.s && !t.psw.o) = true := by
  decide

/-- Vector 35: `DIVU R1, R2`. -/
theorem test_vector_35_divu :
    ends (machine [0xFC, 0x27, 0x12] [(1, 0x0), (2, 0x1)] [])
      (fun t => t.pc == 0x1003 && !t.psw.c && !t.psw.z && !t.psw.s && t.psw.o) = true := by
  decide

/-- Vector 36: `EMUL R1, R2`. -/
theorem test_vector_36_emul :
    ends (machine [0xFC, 0x1B, 0x12] [(1, 0x3), (2, 0xFFFFFFFE), (3, 0x55)] [])
      (fun t => t.reg 2 == 0xFFFFFFFA && t.reg 3 == 0xFFFFFFFF && t.pc == 0x1003 && !t.psw.c && !t.psw.z &&
        !t.psw.s && !t.psw.o) = true := by
  decide

/-- Vector 37: `EMUL R1, R14`. -/
theorem test_vector_37_emul :
    ends (machine [0xFC, 0x1B, 0x1E] [(1, 0x80000000), (14, 0x80000000)] [])
      (fun t => t.reg 14 == 0x0 && t.reg 15 == 0x40000000 && t.pc == 0x1003 && !t.psw.c && !t.psw.z &&
        !t.psw.s && !t.psw.o) = true := by
  decide

/-- Vector 38: `EMULU R1, R2`. -/
theorem test_vector_38_emulu :
    ends (machine [0xFC, 0x1F, 0x12] [(1, 0x2), (2, 0xFFFFFFFF)] [])
      (fun t => t.reg 2 == 0xFFFFFFFE && t.reg 3 == 0x1 && t.pc == 0x1003 && !t.psw.c && !t.psw.z && !t.psw.s &&
        !t.psw.o) = true := by
  decide

/-- Vector 39: `EMULU #-1, R4`. -/
theorem test_vector_39_emulu :
    ends (machine [0xFD, 0x74, 0x74, 0xFF] [(4, 0xFFFFFFFF)] [])
      (fun t => t.reg 4 == 0x1 && t.reg 5 == 0xFFFFFFFE && t.pc == 0x1004 && !t.psw.c && !t.psw.z && !t.psw.s &&
        !t.psw.o) = true := by
  decide

/-- Vector 40: `MAX #10, R2`. -/
theorem test_vector_40_max :
    ends (machine [0xFD, 0x74, 0x42, 0x0A] [(2, 0xFFFFFFFF)] [])
      (fun t => t.reg 2 == 0xA && t.pc == 0x1004 && !t.psw.c && !t.psw.z && !t.psw.s && !t.psw.o) = true := by
  decide

/-- Vector 41: `MIN R1, R2`. -/
theorem test_vector_41_min :
    ends (machine [0xFC, 0x17, 0x12] [(1, 0x80000000), (2, 0x1)] [])
      (fun t => t.reg 2 == 0x80000000 && t.pc == 0x1003 && !t.psw.c && !t.psw.z && !t.psw.s && !t.psw.o) = true := by
  decide

/-- Vector 42: `MUL #10, R2`. -/
theorem test_vector_42_mul :
    ends (machine [0x63, 0xA2] [(2, 0x7)] [])
      (fun t => t.reg 2 == 0x46 && t.pc == 0x1002 && !t.psw.c && !t.psw.z && !t.psw.s && !t.psw.o) = true := by
  decide

/-- Vector 43: `MUL R1, R2, R3`. -/
theorem test_vector_43_mul :
    ends (machine [0xFF, 0x33, 0x12] [(1, 0x10000), (2, 0x10000), (3, 0x55)] [])
      (fun t => t.reg 3 == 0x0 && t.pc == 0x1003 && !t.psw.c && !t.psw.z && !t.psw.s && !t.psw.o) = true := by
  decide

/-- Vector 44: `NEG R1`. -/
theorem test_vector_44_neg :
    ends (machine [0x7E, 0x11] [(1, 0x1)] [])
      (fun t => t.reg 1 == 0xFFFFFFFF && t.pc == 0x1002 && !t.psw.c && !t.psw.z && t.psw.s && !t.psw.o) = true := by
  decide

/-- Vector 46: `NEG R1, R2`. -/
theorem test_vector_46_neg :
    ends (machine [0xFC, 0x07, 0x12] [(1, 0x80000000)] [])
      (fun t => t.reg 2 == 0x80000000 && t.pc == 0x1003 && !t.psw.c && !t.psw.z && t.psw.s && t.psw.o) = true := by
  decide

/-- Vector 47: `NOP`. -/
theorem test_vector_47_nop :
    ends (machine [0x03] [] [])
      (fun t => t.pc == 0x1001 && !t.psw.c && !t.psw.z && !t.psw.s && !t.psw.o) = true := by
  decide

/-- Vector 48: `NOT R1, R2`. -/
theorem test_vector_48_not :
    ends (machine [0xFC, 0x3B, 0x12] [(1, 0xFFFF)] [])
      (fun t => t.reg 2 == 0xFFFF0000 && t.pc == 0x1003 && !t.psw.c && !t.psw.z && t.psw.s && !t.psw.o) = true := by
  decide

/-- Vector 49: `OR 8[R1].L, R2`. -/
theorem test_vector_49_or :
    ends (machine [0x06, 0x95, 0x12, 0x02] [(1, 0x3000), (2, 0xF)] [(0x3008, [0x00, 0xF0, 0x00, 0x00])])
      (fun t => t.reg 2 == 0xF00F && t.pc == 0x1004 && !t.psw.c && !t.psw.z && !t.psw.s && !t.psw.o) = true := by
  decide

/-- Vector 50: `OR #8, R1`. -/
theorem test_vector_50_or :
    ends (machine [0x65, 0x81] [(1, 0x0)] [])
      (fun t => t.reg 1 == 0x8 && t.pc == 0x1002 && !t.psw.c && !t.psw.z && !t.psw.s && !t.psw.o) = true := by
  decide

/-- Vector 54: `ROLC R1`. -/
theorem test_vector_54_rolc :
    ends ({ machine [0x7E, 0x51] [(1, 0x80000000)] [] with
        psw := Psw.ofWord false 0x1 })
      (fun t => t.reg 1 == 0x1 && t.pc == 0x1002 && t.psw.c && !t.psw.z && !t.psw.s && !t.psw.o) = true := by
  decide

/-- Vector 55: `RORC R1`. -/
theorem test_vector_55_rorc :
    ends (machine [0x7E, 0x41] [(1, 0x1)] [])
      (fun t => t.reg 1 == 0x0 && t.pc == 0x1002 && t.psw.c && t.psw.z && !t.psw.s && !t.psw.o) = true := by
  decide

/-- Vector 56: `ROTL #1, R1`. -/
theorem test_vector_56_rotl :
    ends (machine [0xFD, 0x6E, 0x11] [(1, 0x80000001)] [])
      (fun t => t.reg 1 == 0x3 && t.pc == 0x1003 && t.psw.c && !t.psw.z && !t.psw.s && !t.psw.o) = true := by
  decide

/-- Vector 57: `ROTL R2, R1`. -/
theorem test_vector_57_rotl :
    ends (machine [0xFD, 0x66, 0x21] [(1, 0x12345678), (2, 0x20)] [])
      (fun t => t.pc == 0x1003 && !t.psw.c && !t.psw.z && !t.psw.s && !t.psw.o) = true := by
  decide

/-- Vector 58: `ROTR R1, R2`. -/
theorem test_vector_58_rotr :
    ends (machine [0xFD, 0x64, 0x12] [(1, 0x24), (2, 0xF)] [])
      (fun t => t.reg 2 == 0xF0000000 && t.pc == 0x1003 && t.psw.c && !t.psw.z && t.psw.s && !t.psw.o) = true := by
  decide

/-- Vector 59: `ROTR #31, R1`. -/
theorem test_vector_59_rotr :
    ends (machine [0xFD, 0x6D, 0xF1] [(1, 0x1)] [])
      (fun t => t.reg 1 == 0x2 && t.pc == 0x1003 && !t.psw.c && !t.psw.z && !t.psw.s && !t.psw.o) = true := by
  decide

/-- Vector 60: `SAT R1`. -/
theorem test_vector_60_sat :
    ends ({ machine [0x7E, 0x31] [(1, 0x80000005)] [] with
        psw := Psw.ofWord false 0xC })
      (fun t => t.reg 1 == 0x7FFFFFFF && t.pc == 0x1002 && !t.psw.c && !t.psw.z && t.psw.s && t.psw.o) = true := by
  decide

/-- Vector 61: `SAT R1`. -/
theorem test_vector_61_sat :
    ends ({ machine [0x7E, 0x31] [(1, 0x5)] [] with
        psw := Psw.ofWord false 0x8 })
      (fun t => t.reg 1 == 0x80000000 && t.pc == 0x1002 && !t.psw.c && !t.psw.z && !t.psw.s && t.psw.o) = true := by
  decide

/-- Vector 63: `SATR`. -/
theorem test_vector_63_satr :
    ends ({ machine [0x7F, 0x93] [(4, 0x1), (5, 0x2), (6, 0x3)] [] with
        psw := Psw.ofWord false 0xC })
      (fun t => t.reg 4 == 0x0 && t.reg 5 == 0x80000000 && t.reg 6 == 0xFFFFFFFF && t.pc == 0x1002 && !t.psw.c &&
        !t.psw.z && t.psw.s && t.psw.o) = true := by
  decide

/-- Vector 64: `SATR`. -/
theorem test_vector_64_satr :
    ends ({ machine [0x7F, 0x93] [(4, 0x1), (5, 0x2), (6, 0x3)] [] with
        psw := Psw.ofWord false 0x8 })
      (fun t => t.reg 4 == 0xFFFFFFFF && t.reg 5 == 0x7FFFFFFF && t.reg 6 == 0x0 && t.pc == 0x1002 && !t.psw.c &&
        !t.psw.z && !t.psw.s && t.psw.o) = true := by
  decide

/-- Vector 65: `SBB R1, R2`. -/
theorem test_vector_65_sbb :
    ends (machine [0xFC, 0x03, 0x12] [(1, 0x5), (2, 0x5)] [])
      (fun t => t.reg 2 == 0xFFFFFFFF && t.pc == 0x1003 && !t.psw.c && !t.psw.z && t.psw.s && !t.psw.o) = true := by
  decide

/-- Vector 67: `SBB [R1], R2`. -/
theorem test_vector_67_sbb :
    ends ({ machine [0x06, 0xA0, 0x00, 0x12] [(1, 0x3000), (2, 0x0)] [(0x3000, [0x01, 0x00, 0x00, 0x00])] with
        psw := Psw.ofWord false 0x1 })
      (fun t => t.reg 2 == 0xFFFFFFFF && t.pc == 0x1004 && !t.psw.c && !t.psw.z && t.psw.s && !t.psw.o) = true := by
  decide

/-- Vector 68: `SHAR #3, R2`. -/
theorem test_vector_68_shar :
    ends (machine [0x6A, 0x32] [(2, 0xFFFFFFF4)] [])
      (fun t => t.reg 2 == 0xFFFFFFFE && t.pc == 0x1002 && t.psw.c && !t.psw.z && t.psw.s && !t.psw.o) = true := by
  decide

/-- Vector 70: `SHAR R1, R2`. -/
theorem test_vector_70_shar :
    ends (machine [0xFD, 0x61, 0x12] [(1, 0xFFFFFFFF), (2, 0x80000000)] [])
      (fun t => t.reg 2 == 0xFFFFFFFF && t.pc == 0x1003 && !t.psw.c && !t.psw.z && t.psw.s && !t.psw.o) = true := by
  decide

/-- Vector 73: `SHLL #1, R2`. -/
theorem test_vector_73_shll :
    ends (machine [0x6C, 0x12] [(2, 0xC0000000)] [])
      (fun t => t.reg 2 == 0x80000000 && t.pc == 0x1002 && t.psw.c && !t.psw.z && t.psw.s && !t.psw.o) = true := by
  decide

/-- Vector 76: `SHLL R1, R2`. -/
theorem test_vector_76_shll :
    ends (machine [0xFD, 0x62, 0x12] [(1, 0x21), (2, 0xFFFFFFFF)] [])
      (fun t => t.reg 2 == 0xFFFFFFFE && t.pc == 0x1003 && t.psw.c && !t.psw.z && t.psw.s && !t.psw.o) = true := by
  decide

/-- Vector 78: `SHLR #3, R1, R2`. -/
theorem test_vector_78_shlr :
    ends ({ machine [0xFD, 0x83, 0x12] [(1, 0x80000004)] [] with
        psw := Psw.ofWord false 0x8 })
      (fun t => t.reg 2 == 0x10000000 && t.pc == 0x1003 && t.psw.c && !t.psw.z && !t.psw.s && t.psw.o) = true := by
  decide

/-- Vector 80: `SHLR R1, R2`. -/
theorem test_vector_80_shlr :
    ends ({ machine [0xFD, 0x60, 0x12] [(1, 0x0), (2, 0x5)] [] with
        psw := Psw.ofWord false 0x1 })
      (fun t => t.pc == 0x1003 && !t.psw.c && !t.psw.z && !t.psw.s && !t.psw.o) = true := by
  decide

/-- Vector 82: `SUB R1, R2`. -/
theorem test_vector_82_sub :
    ends (machine [0x43, 0x12] [(1, 0x1), (2, 0x80000000)] [])
      (fun t => t.reg 2 == 0x7FFFFFFF && t.pc == 0x1002 && t.psw.c && !t.psw.z && !t.psw.s && t.psw.o) = true := by
  decide

/-- Vector 84: `SUB 1[R1].B, R2`. -/
theorem test_vector_84_sub :
    ends (machine [0x06, 0x01, 0x12, 0x01] [(1, 0x3000), (2, 0x0)] [(0x3001, [0x80])])
      (fun t => t.reg 2 == 0x80 && t.pc == 0x1004 && !t.psw.c && !t.psw.z && !t.psw.s && !t.psw.o) = true := by
  decide

/-- Vector 85: `TST #7, R2`. -/
theorem test_vector_85_tst :
    ends (machine [0xFD, 0x74, 0xC2, 0x07] [(2, 0x8)] [])
      (fun t => t.pc == 0x1004 && !t.psw.c && t.psw.z && !t.psw.s && !t.psw.o) = true := by
  decide

/-- Vector 86: `TST R1, R2`. -/
theorem test_vector_86_tst :
    ends ({ machine [0xFC, 0x33, 0x12] [(1, 0x80000000), (2, 0xFFFFFFFF)] [] with
        psw := Psw.ofWord false 0x9 })
      (fun t => t.pc == 0x1003 && t.psw.c && !t.psw.z && t.psw.s && t.psw.o) = true := by
  decide

/-- Vector 87: `XOR R1, R2`. -/
theorem test_vector_87_xor :
    ends (machine [0xFC, 0x37, 0x12] [(1, 0x12345678), (2, 0x12345678)] [])
      (fun t => t.reg 2 == 0x0 && t.pc == 0x1003 && !t.psw.c && t.psw.z && !t.psw.s && !t.psw.o) = true := by
  decide

/-- Vector 88: `XOR #-1, R2`. -/
theorem test_vector_88_xor :
    ends (machine [0xFD, 0x74, 0xD2, 0xFF] [(2, 0xF0F0F0F)] [])
      (fun t => t.reg 2 == 0xF0F0F0F0 && t.pc == 0x1004 && !t.psw.c && !t.psw.z && t.psw.s && !t.psw.o) = true := by
  decide

/-- Vector 90: `MOV.L #128:8, R2`. -/
theorem test_vector_90_mov :
    ends (machine [0x75, 0x42, 0x80] [] [])
      (fun t => t.reg 2 == 0x80 && t.pc == 0x1003 && !t.psw.c && !t.psw.z && !t.psw.s && !t.psw.o) = true := by
  decide

/-- Vector 92: `MOV.L #12345678h, R2`. -/
theorem test_vector_92_mov :
    ends (machine [0xFB, 0x22, 0x78, 0x56, 0x34, 0x12] [] [])
      (fun t => t.reg 2 == 0x12345678 && t.pc == 0x1006 && !t.psw.c && !t.psw.z && !t.psw.s && !t.psw.o) = true := by
  decide

/-- Vector 95: `MOV.W R1, R2`. -/
theorem test_vector_95_mov :
    ends (machine [0xDF, 0x12] [(1, 0x12347FFF)] [])
      (fun t => t.reg 2 == 0x7FFF && t.pc == 0x1002 && !t.psw.c && !t.psw.z && !t.psw.s && !t.psw.o) = true := by
  decide

/-- Vector 97: `MOV.L R1, [R2]`. -/
theorem test_vector_97_mov :
    ends ({ machine [0xE3, 0x21] [(1, 0x11223344), (2, 0x3000)] [] with
        product := bigProduct })
      (fun t => t.pc == 0x1002 && t.byteAt 0x3000 == 0x11 && t.byteAt 0x3001 == 0x22 &&
        t.byteAt 0x3002 == 0x33 && t.byteAt 0x3003 == 0x44 && !t.psw.c && !t.psw.z && !t.psw.s &&
          !t.psw.o) = true := by
  decide

/-- Vector 99: `MOV.W [R1], R2`. -/
theorem test_vector_99_mov :
    ends ({ machine [0xDC, 0x12] [(1, 0x3000)] [(0x3000, [0x01, 0x80])] with
        product := bigProduct })
      (fun t => t.reg 2 == 0x180 && t.pc == 0x1002 && !t.psw.c && !t.psw.z && !t.psw.s && !t.psw.o) = true := by
  decide

/-- Vector 104: `MOV.L #0, [R2]`. -/
theorem test_vector_104_mov :
    ends (machine [0xF8, 0x26, 0x00] [(2, 0x3000)] [(0x3000, [0x09, 0x09, 0x09, 0x09])])
      (fun t => t.pc == 0x1003 && t.byteAt 0x3000 == 0x00 && t.byteAt 0x3001 == 0x00 &&
        t.byteAt 0x3002 == 0x00 && t.byteAt 0x3003 == 0x00 && !t.psw.c && !t.psw.z && !t.psw.s &&
          !t.psw.o) = true := by
  decide

/-- Vector 107: `MOV.L #255, 4[R2]`. -/
theorem test_vector_107_mov :
    ends (machine [0x3E, 0x21, 0xFF] [(2, 0x3000)] [])
      (fun t => t.pc == 0x1003 && t.byteAt 0x3004 == 0xFF && t.byteAt 0x3005 == 0x00 &&
        t.byteAt 0x3006 == 0x00 && t.byteAt 0x3007 == 0x00 && !t.psw.c && !t.psw.z && !t.psw.s &&
          !t.psw.o) = true := by
  decide

/-- Vector 108: `MOV.W [R1, R2], R3`. -/
theorem test_vector_108_mov :
    ends (machine [0xFE, 0x51, 0x23] [(1, 0x3), (2, 0x3000)] [(0x3006, [0xFE, 0xFF])])
      (fun t => t.reg 3 == 0xFFFFFFFE && t.pc == 0x1003 && !t.psw.c && !t.psw.z && !t.psw.s && !t.psw.o) = true := by
  decide

/-- Vector 113: `MOV.L R1, [-R1]`. -/
theorem test_vector_113_mov :
    ends (machine [0xFD, 0x26, 0x11] [(1, 0x3004)] [])
      (fun t => t.reg 1 == 0x3000 && t.pc == 0x1003 && t.byteAt 0x3000 == 0x04 && t.byteAt 0x3001 == 0x30 &&
        t.byteAt 0x3002 == 0x00 && t.byteAt 0x3003 == 0x00 && !t.psw.c && !t.psw.z && !t.psw.s &&
          !t.psw.o) = true := by
  decide

/-- Vector 115: `MOV.L [R1+], R1`. -/
theorem test_vector_115_mov :
    ends (machine [0xFD, 0x2A, 0x11] [(1, 0x3000)] [(0x3000, [0x01, 0x02, 0x03, 0x04])])
      (fun t => t.reg 1 == 0x4030201 && t.pc == 0x1003 && !t.psw.c && !t.psw.z && !t.psw.s && !t.psw.o) = true := by
  decide

/-- Vector 117: `MOVU.W R1, R2`. -/
theorem test_vector_117_movu :
    ends (machine [0x5F, 0x12] [(1, 0xFFFF8001)] [])
      (fun t => t.reg 2 == 0x8001 && t.pc == 0x1002 && !t.psw.c && !t.psw.z && !t.psw.s && !t.psw.o) = true := by
  decide

/-- Vector 120: `MOVU.B [R1+], R2`. -/
theorem test_vector_120_movu :
    ends (machine [0xFD, 0x38, 0x12] [(1, 0x3000)] [(0x3000, [0xFF])])
      (fun t => t.reg 1 == 0x3001 && t.reg 2 == 0xFF && t.pc == 0x1003 && !t.psw.c && !t.psw.z && !t.psw.s &&
        !t.psw.o) = true := by
  decide

/-- Vector 121: `POP R1`. -/
theorem test_vector_121_pop :
    ends ({ machine [0x7E, 0xB1] [] [(0x1FF0, [0x78, 0x56, 0x34, 0x12])] with
        isp := 0x1FF0 })
      (fun t => t.reg 1 == 0x12345678 && t.isp == 0x1FF4 && t.pc == 0x1002 && !t.psw.c && !t.psw.z && !t.psw.s &&
        !t.psw.o) = true := by
  decide

/-- Vector 122: `POP R0`. -/
theorem test_vector_122_pop :
    ends ({ machine [0x7E, 0xB0] [] [(0x1FF0, [0x00, 0x30, 0x00, 0x00])] with
        isp := 0x1FF0 })
      (fun t => t.isp == 0x3000 && t.pc == 0x1002 && !t.psw.c && !t.psw.z && !t.psw.s && !t.psw.o) = true := by
  decide

/-- Vector 123: `PUSH.L R1`. -/
theorem test_vector_123_push :
    ends (machine [0x7E, 0xA1] [(1, 0x11223344)] [])
      (fun t => t.isp == 0x1FFC && t.pc == 0x1002 && t.byteAt 0x1FFC == 0x44 && t.byteAt 0x1FFD == 0x33 &&
        t.byteAt 0x1FFE == 0x22 && t.byteAt 0x1FFF == 0x11 && !t.psw.c && !t.psw.z && !t.psw.s &&
          !t.psw.o) = true := by
  decide

/-- Vector 126: `PUSH.L R0`. -/
theorem test_vector_126_push :
    ends (machine [0x7E, 0xA0] [] [])
      (fun t => t.isp == 0x1FFC && t.pc == 0x1002 && t.byteAt 0x1FFC == 0x00 && t.byteAt 0x1FFD == 0x20 &&
        t.byteAt 0x1FFE == 0x00 && t.byteAt 0x1FFF == 0x00 && !t.psw.c && !t.psw.z && !t.psw.s &&
          !t.psw.o) = true := by
  decide

/-- Vector 128: `PUSHM R1-R3`. -/
theorem test_vector_128_pushm :
    ends (machine [0x6E, 0x13] [(1, 0x1), (2, 0x2), (3, 0x3)] [])
      (fun t => t.isp == 0x1FF4 && t.pc == 0x1002 && t.byteAt 0x1FF4 == 0x01 && t.byteAt 0x1FF5 == 0x00 &&
        t.byteAt 0x1FF6 == 0x00 && t.byteAt 0x1FF7 == 0x00 && t.byteAt 0x1FF8 == 0x02 &&
          t.byteAt 0x1FF9 == 0x00 && t.byteAt 0x1FFA == 0x00 && t.byteAt 0x1FFB == 0x00 &&
            t.byteAt 0x1FFC == 0x03 && t.byteAt 0x1FFD == 0x00 && t.byteAt 0x1FFE == 0x00 &&
              t.byteAt 0x1FFF == 0x00 && !t.psw.c && !t.psw.z && !t.psw.s && !t.psw.o) = true := by
  decide

/-- Vector 129: `POPM R1-R3`. -/
theorem test_vector_129_popm :
    ends ({ machine [0x6F, 0x13] [] [(0x1FF4, [0x01, 0x00, 0x00, 0x00, 0x02, 0x00, 0x00, 0x00, 0x03, 0x00, 0x00,
      0x00])] with
        isp := 0x1FF4 })
      (fun t => t.reg 1 == 0x1 && t.reg 2 == 0x2 && t.reg 3 == 0x3 && t.isp == 0x2000 && t.pc == 0x1002 &&
        !t.psw.c && !t.psw.z && !t.psw.s && !t.psw.o) = true := by
  decide

/-- Vector 132: `PUSHC PSW`. -/
theorem test_vector_132_pushc :
    ends ({ machine [0x7E, 0xC0] [] [] with
        psw := Psw.ofWord false 0x30005 })
      (fun t => t.usp == 0x6FFC && t.pc == 0x1002 && t.byteAt 0x6FFC == 0x05 && t.byteAt 0x6FFD == 0x00 &&
        t.byteAt 0x6FFE == 0x03 && t.byteAt 0x6FFF == 0x00 && t.psw.c && !t.psw.z && t.psw.s && !t.psw.o) = true := by
  decide

/-- Vector 133: `PUSHC PC`. -/
theorem test_vector_133_pushc :
    ends (machine [0x7E, 0xC1] [] [])
      (fun t => t.isp == 0x1FFC && t.pc == 0x1002 && t.byteAt 0x1FFC == 0x00 && t.byteAt 0x1FFD == 0x10 &&
        t.byteAt 0x1FFE == 0x00 && t.byteAt 0x1FFF == 0x00 && !t.psw.c && !t.psw.z && !t.psw.s &&
          !t.psw.o) = true := by
  decide

/-- Vector 134: `POPC PSW`. -/
theorem test_vector_134_popc :
    ends ({ machine [0x7E, 0xE0] [] [(0x6FFC, [0x0F, 0x00, 0x00, 0x0F])] with
        usp := 0x6FFC, psw := Psw.ofWord false 0x130000 })
      (fun t => t.usp == 0x7000 && t.pc == 0x1002 && t.psw.c && t.psw.z && t.psw.s && t.psw.o) = true := by
  decide

/-- Vector 135: `POPC PSW`. -/
theorem test_vector_135_popc :
    ends ({ machine [0x7E, 0xE0] [] [(0x1FFC, [0x0F, 0x00, 0x13, 0x0F])] with
        isp := 0x1FFC })
      (fun t => t.isp == 0x2000 && t.psw.toWord == 0xF03000F && t.pc == 0x1002 && t.psw.c && t.psw.z &&
        t.psw.s && t.psw.o) = true := by
  decide

/-- Vector 137: `REVL R1, R2`. -/
theorem test_vector_137_revl :
    ends (machine [0xFD, 0x67, 0x12] [(1, 0x12345678)] [])
      (fun t => t.reg 2 == 0x78563412 && t.pc == 0x1003 && !t.psw.c && !t.psw.z && !t.psw.s && !t.psw.o) = true := by
  decide

/-- Vector 138: `REVW R1, R2`. -/
theorem test_vector_138_revw :
    ends (machine [0xFD, 0x65, 0x12] [(1, 0x12345678)] [])
      (fun t => t.reg 2 == 0x34127856 && t.pc == 0x1003 && !t.psw.c && !t.psw.z && !t.psw.s && !t.psw.o) = true := by
  decide

/-- Vector 139: `SCC.L R2`. -/
theorem test_vector_139_sccnd :
    ends ({ machine [0xFC, 0xDB, 0x22] [(2, 0xFFFFFFFF)] [] with
        psw := Psw.ofWord false 0x1 })
      (fun t => t.reg 2 == 0x1 && t.pc == 0x1003 && t.psw.c && !t.psw.z && !t.psw.s && !t.psw.o) = true := by
  decide

/-- Vector 140: `SCNE.W [R2]`. -/
theorem test_vector_140_sccnd :
    ends ({ machine [0xFC, 0xD4, 0x21] [(2, 0x3000)] [(0x3000, [0x09, 0x09])] with
        psw := Psw.ofWord false 0x2 })
      (fun t => t.pc == 0x1003 && t.byteAt 0x3000 == 0x00 && t.byteAt 0x3001 == 0x00 && !t.psw.c && t.psw.z &&
        !t.psw.s && !t.psw.o) = true := by
  decide

/-- Vector 143: `STNZ #1, R2`. -/
theorem test_vector_143_stnz :
    ends (machine [0xFD, 0x74, 0xF2, 0x01] [(2, 0x9)] [])
      (fun t => t.reg 2 == 0x1 && t.pc == 0x1004 && !t.psw.c && !t.psw.z && !t.psw.s && !t.psw.o) = true := by
  decide

/-- Vector 144: `STNZ #1, R2`. -/
theorem test_vector_144_stnz :
    ends ({ machine [0xFD, 0x74, 0xF2, 0x01] [(2, 0x9)] [] with
        psw := Psw.ofWord false 0x2 })
      (fun t => t.pc == 0x1004 && !t.psw.c && t.psw.z && !t.psw.s && !t.psw.o) = true := by
  decide

/-- Vector 145: `STZ #-1, R2`. -/
theorem test_vector_145_stz :
    ends ({ machine [0xFD, 0x74, 0xE2, 0xFF] [(2, 0x9)] [] with
        psw := Psw.ofWord false 0x2 })
      (fun t => t.reg 2 == 0xFFFFFFFF && t.pc == 0x1004 && !t.psw.c && t.psw.z && !t.psw.s && !t.psw.o) = true := by
  decide

/-- Vector 146: `XCHG R1, R2`. -/
theorem test_vector_146_xchg :
    ends (machine [0xFC, 0x43, 0x12] [(1, 0x1), (2, 0x2)] [])
      (fun t => t.reg 1 == 0x2 && t.reg 2 == 0x1 && t.pc == 0x1003 && !t.psw.c && !t.psw.z && !t.psw.s &&
        !t.psw.o) = true := by
  decide

/-- Vector 147: `XCHG [R1].W, R2`. -/
theorem test_vector_147_xchg :
    ends (machine [0x06, 0x60, 0x10, 0x12] [(1, 0x3000), (2, 0x1234)] [(0x3000, [0x01, 0x80])])
      (fun t => t.reg 2 == 0xFFFF8001 && t.pc == 0x1004 && t.byteAt 0x3000 == 0x34 && t.byteAt 0x3001 == 0x12 &&
        !t.psw.c && !t.psw.z && !t.psw.s && !t.psw.o) = true := by
  decide

/-- Vector 149: `BEQ.B +16`. -/
theorem test_vector_149_bcnd :
    ends ({ machine [0x20, 0x10] [] [] with
        psw := Psw.ofWord false 0x2 })
      (fun t => t.pc == 0x1010 && !t.psw.c && t.psw.z && !t.psw.s && !t.psw.o) = true := by
  decide

/-- Vector 152: `BEQ.S +8`. -/
theorem test_vector_152_bcnd :
    ends ({ machine [0x10] [] [] with
        psw := Psw.ofWord false 0x2 })
      (fun t => t.pc == 0x1008 && !t.psw.c && t.psw.z && !t.psw.s && !t.psw.o) = true := by
  decide

/-- Vector 156: `BGTU.B +4`. -/
theorem test_vector_156_bcnd :
    ends ({ machine [0x24, 0x04] [] [] with
        psw := Psw.ofWord false 0x3 })
      (fun t => t.pc == 0x1002 && t.psw.c && t.psw.z && !t.psw.s && !t.psw.o) = true := by
  decide

/-- Vector 159: `BRA.B -2`. -/
theorem test_vector_159_bra :
    ends (machine [0x2E, 0xFE] [] [])
      (fun t => t.pc == 0xFFE && !t.psw.c && !t.psw.z && !t.psw.s && !t.psw.o) = true := by
  decide

/-- Vector 161: `BRA.W +4000h`. -/
theorem test_vector_161_bra :
    ends (machine [0x38, 0x00, 0x40] [] [])
      (fun t => t.pc == 0x5000 && !t.psw.c && !t.psw.z && !t.psw.s && !t.psw.o) = true := by
  decide

/-- Vector 164: `BSR.W +100h`. -/
theorem test_vector_164_bsr :
    ends (machine [0x39, 0x00, 0x01] [] [])
      (fun t => t.isp == 0x1FFC && t.pc == 0x1100 && t.byteAt 0x1FFC == 0x03 && t.byteAt 0x1FFD == 0x10 &&
        t.byteAt 0x1FFE == 0x00 && t.byteAt 0x1FFF == 0x00 && !t.psw.c && !t.psw.z && !t.psw.s &&
          !t.psw.o) = true := by
  decide

/-- Vector 166: `BSR.L R0`. -/
theorem test_vector_166_bsr :
    ends (machine [0x7F, 0x50] [] [])
      (fun t => t.isp == 0x1FFC && t.pc == 0x3000 && t.byteAt 0x1FFC == 0x02 && t.byteAt 0x1FFD == 0x10 &&
        t.byteAt 0x1FFE == 0x00 && t.byteAt 0x1FFF == 0x00 && !t.psw.c && !t.psw.z && !t.psw.s &&
          !t.psw.o) = true := by
  decide

/-- Vector 167: `JMP R1`. -/
theorem test_vector_167_jmp :
    ends (machine [0x7F, 0x01] [(1, 0xFFFF8000)] [])
      (fun t => t.pc == 0xFFFF8000 && !t.psw.c && !t.psw.z && !t.psw.s && !t.psw.o) = true := by
  decide

/-- Vector 168: `JSR R1`. -/
theorem test_vector_168_jsr :
    ends (machine [0x7F, 0x11] [(1, 0x4001)] [])
      (fun t => t.isp == 0x1FFC && t.pc == 0x4001 && t.byteAt 0x1FFC == 0x02 && t.byteAt 0x1FFD == 0x10 &&
        t.byteAt 0x1FFE == 0x00 && t.byteAt 0x1FFF == 0x00 && !t.psw.c && !t.psw.z && !t.psw.s &&
          !t.psw.o) = true := by
  decide

/-- Vector 169: `RTS`. -/
theorem test_vector_169_rts :
    ends ({ machine [0x02] [] [(0x1FFC, [0x03, 0x10, 0x00, 0x00])] with
        isp := 0x1FFC })
      (fun t => t.isp == 0x2000 && t.pc == 0x1003 && !t.psw.c && !t.psw.z && !t.psw.s && !t.psw.o) = true := by
  decide

/-- Vector 170: `RTSD #4`. -/
theorem test_vector_170_rtsd :
    ends ({ machine [0x67, 0x01] [] [(0x1FFC, [0x00, 0x20, 0x00, 0x00])] with
        isp := 0x1FF8 })
      (fun t => t.isp == 0x2000 && t.pc == 0x2000 && !t.psw.c && !t.psw.z && !t.psw.s && !t.psw.o) = true := by
  decide

/-- Vector 174: `RTSD #4, R5-R5`. -/
theorem test_vector_174_rtsd :
    ends ({ machine [0x3F, 0x55, 0x01] [] [(0x1FF8, [0x05, 0x00, 0x00, 0x00, 0x00, 0x50, 0x00, 0x00])] with
        isp := 0x1FF8 })
      (fun t => t.reg 5 == 0x5 && t.isp == 0x2000 && t.pc == 0x5000 && !t.psw.c && !t.psw.z && !t.psw.s &&
        !t.psw.o) = true := by
  decide

/-- Vector 179: `BSET #31, R2`. -/
theorem test_vector_179_bset :
    ends (machine [0x79, 0xF2] [(2, 0x0)] [])
      (fun t => t.reg 2 == 0x80000000 && t.pc == 0x1002 && !t.psw.c && !t.psw.z && !t.psw.s && !t.psw.o) = true := by
  decide

/-- Vector 181: `BSET R1, R2`. -/
theorem test_vector_181_bset :
    ends (machine [0xFC, 0x63, 0x21] [(1, 0x25), (2, 0x0)] [])
      (fun t => t.reg 2 == 0x20 && t.pc == 0x1003 && !t.psw.c && !t.psw.z && !t.psw.s && !t.psw.o) = true := by
  decide

/-- Vector 180: `BCLR #31, R2`. -/
theorem test_vector_180_bclr :
    ends (machine [0x7B, 0xF2] [(2, 0xFFFFFFFF)] [])
      (fun t => t.reg 2 == 0x7FFFFFFF && t.pc == 0x1002 && !t.psw.c && !t.psw.z && !t.psw.s && !t.psw.o) = true := by
  decide

/-- Vector 182: `BCLR R2, R2`. -/
theorem test_vector_182_bclr :
    ends (machine [0xFC, 0x67, 0x22] [(2, 0x1F)] [])
      (fun t => t.pc == 0x1003 && !t.psw.c && !t.psw.z && !t.psw.s && !t.psw.o) = true := by
  decide

/-- Vector 183: `BNOT #31, R2`. -/
theorem test_vector_183_bnot :
    ends (machine [0xFD, 0xFF, 0xF2] [(2, 0x80000000)] [])
      (fun t => t.reg 2 == 0x0 && t.pc == 0x1003 && !t.psw.c && !t.psw.z && !t.psw.s && !t.psw.o) = true := by
  decide

/-- Vector 184: `BNOT R1, R2`. -/
theorem test_vector_184_bnot :
    ends (machine [0xFC, 0x6F, 0x21] [(1, 0x24), (2, 0x0)] [])
      (fun t => t.reg 2 == 0x10 && t.pc == 0x1003 && !t.psw.c && !t.psw.z && !t.psw.s && !t.psw.o) = true := by
  decide

/-- Vector 186: `BTST #31, R2`. -/
theorem test_vector_186_btst :
    ends ({ machine [0x7D, 0xF2] [(2, 0x80000000)] [] with
        psw := Psw.ofWord false 0xC })
      (fun t => t.pc == 0x1002 && t.psw.c && !t.psw.z && t.psw.s && t.psw.o) = true := by
  decide

/-- Vector 189: `BTST R1, R2`. -/
theorem test_vector_189_btst :
    ends (machine [0xFC, 0x6B, 0x21] [(1, 0x20), (2, 0x1)] [])
      (fun t => t.pc == 0x1003 && t.psw.c && !t.psw.z && !t.psw.s && !t.psw.o) = true := by
  decide

/-- Vector 192: `BMZ #31, R2`. -/
theorem test_vector_192_bmcnd :
    ends ({ machine [0xFD, 0xFF, 0x02] [] [] with
        psw := Psw.ofWord false 0x2 })
      (fun t => t.reg 2 == 0x80000000 && t.pc == 0x1003 && !t.psw.c && t.psw.z && !t.psw.s && !t.psw.o) = true := by
  decide

/-- Vector 193: `BMZ #31, R2`. -/
theorem test_vector_193_bmcnd :
    ends (machine [0xFD, 0xFF, 0x02] [(2, 0xFFFFFFFF)] [])
      (fun t => t.reg 2 == 0x7FFFFFFF && t.pc == 0x1003 && !t.psw.c && !t.psw.z && !t.psw.s && !t.psw.o) = true := by
  decide

/-- Vector 211: `SETPSW C`. -/
theorem test_vector_211_setpsw :
    ends (machine [0x7F, 0xA0] [] [])
      (fun t => t.pc == 0x1002 && t.psw.c && !t.psw.z && !t.psw.s && !t.psw.o) = true := by
  decide

/-- Vector 213: `SETPSW I`. -/
theorem test_vector_213_setpsw :
    ends ({ machine [0x7F, 0xA8] [] [] with
        psw := Psw.ofWord false 0x120000 })
      (fun t => t.pc == 0x1002 && !t.psw.c && !t.psw.z && !t.psw.s && !t.psw.o) = true := by
  decide

/-- Vector 215: `CLRPSW U`. -/
theorem test_vector_215_clrpsw :
    ends ({ machine [0x7F, 0xB9] [] [] with
        psw := Psw.ofWord false 0x120000 })
      (fun t => t.pc == 0x1002 && !t.psw.c && !t.psw.z && !t.psw.s && !t.psw.o) = true := by
  decide

/-- Vector 216: `CLRPSW O`. -/
theorem test_vector_216_clrpsw :
    ends ({ machine [0x7F, 0xB3] [] [] with
        psw := Psw.ofWord false 0x9 })
      (fun t => t.pc == 0x1002 && t.psw.c && !t.psw.z && !t.psw.s && !t.psw.o) = true := by
  decide

/-- Vector 218: `MVFC PC, R2`. -/
theorem test_vector_218_mvfc :
    ends (machine [0xFD, 0x6A, 0x12] [] [])
      (fun t => t.reg 2 == 0x1000 && t.pc == 0x1003 && !t.psw.c && !t.psw.z && !t.psw.s && !t.psw.o) = true := by
  decide

/-- Vector 220: `MVFC USP, R1`. -/
theorem test_vector_220_mvfc :
    ends (machine [0xFD, 0x6A, 0x21] [] [])
      (fun t => t.reg 1 == 0x7000 && t.pc == 0x1003 && !t.psw.c && !t.psw.z && !t.psw.s && !t.psw.o) = true := by
  decide

/-- Vector 222: `MVTC #0FFFFFF00h, INTB`. -/
theorem test_vector_222_mvtc :
    ends (machine [0xFD, 0x7B, 0x0C, 0x00, 0xFF] [] [])
      (fun t => t.intb == 0xFFFFFF00 && t.pc == 0x1005 && !t.psw.c && !t.psw.z && !t.psw.s && !t.psw.o) = true := by
  decide

/-- Vector 224: `MVTC R1, ISP`. -/
theorem test_vector_224_mvtc :
    ends (machine [0xFD, 0x68, 0x1A] [(1, 0x1800)] [])
      (fun t => t.isp == 0x1800 && t.pc == 0x1003 && !t.psw.c && !t.psw.z && !t.psw.s && !t.psw.o) = true := by
  decide

/-- Vector 226: `MVTC R1, PSW`. -/
theorem test_vector_226_mvtc :
    ends (machine [0xFD, 0x68, 0x10] [(1, 0xF13000F)] [])
      (fun t => t.psw.toWord == 0xF03000F && t.pc == 0x1003 && t.psw.c && t.psw.z && t.psw.s && t.psw.o) = true := by
  decide

/-- Vector 229: `MVTIPL #2`. -/
theorem test_vector_229_mvtipl :
    ends (machine [0x75, 0x70, 0x02] [] [])
      (fun t => t.psw.toWord == 0x2000000 && t.pc == 0x1003 && !t.psw.c && !t.psw.z && !t.psw.s &&
        !t.psw.o) = true := by
  decide

/-- Vector 232: `BRK`. -/
theorem test_vector_232_brk :
    ends ({ machine [0x00] [] [(0x0, [0x00, 0x40, 0x00, 0x00])] with
        intb := 0x0, psw := Psw.ofWord false 0x130001 })
      (fun t => t.isp == 0x1FF8 && t.psw.toWord == 0x1 && t.pc == 0x4000 && t.byteAt 0x1FF8 == 0x01 &&
        t.byteAt 0x1FF9 == 0x10 && t.byteAt 0x1FFA == 0x00 && t.byteAt 0x1FFB == 0x00 &&
          t.byteAt 0x1FFC == 0x01 && t.byteAt 0x1FFD == 0x00 && t.byteAt 0x1FFE == 0x13 &&
            t.byteAt 0x1FFF == 0x00 && t.psw.c && !t.psw.z && !t.psw.s && !t.psw.o) = true := by
  decide

/-- Vector 233: `INT #32`. -/
theorem test_vector_233_int :
    ends ({ machine [0x75, 0x60, 0x20] [] [(0x480, [0x00, 0xB0, 0x00, 0x00])] with
        psw := Psw.ofWord false 0x130000 })
      (fun t => t.isp == 0x1FF8 && t.psw.toWord == 0x0 && t.pc == 0xB000 && t.byteAt 0x1FF8 == 0x03 &&
        t.byteAt 0x1FF9 == 0x10 && t.byteAt 0x1FFA == 0x00 && t.byteAt 0x1FFB == 0x00 &&
          t.byteAt 0x1FFC == 0x00 && t.byteAt 0x1FFD == 0x00 && t.byteAt 0x1FFE == 0x13 &&
            t.byteAt 0x1FFF == 0x00 && !t.psw.c && !t.psw.z && !t.psw.s && !t.psw.o) = true := by
  decide

/-- Vector 234: `RTE`. -/
theorem test_vector_234_rte :
    ends ({ machine [0x7F, 0x95] [] [(0x1FF8, [0x01, 0x10, 0x00, 0x00, 0x01, 0x00, 0x13, 0x00])] with
        isp := 0x1FF8 })
      (fun t => t.isp == 0x2000 && t.psw.toWord == 0x130001 && t.pc == 0x1001 && t.psw.c && !t.psw.z &&
        !t.psw.s && !t.psw.o) = true := by
  decide

/-- Vector 235: `RTE`. -/
theorem test_vector_235_rte :
    ends ({ machine [0x7F, 0x95] [] [(0x1FF8, [0x01, 0x10, 0x00, 0x00, 0x00, 0x00, 0x10, 0x00])] with
        isp := 0x1FF8 })
      (fun t => t.isp == 0x2000 && t.psw.toWord == 0x120000 && t.pc == 0x1001 && !t.psw.c && !t.psw.z &&
        !t.psw.s && !t.psw.o) = true := by
  decide

/-- Vector 237: `RTFI`. -/
theorem test_vector_237_rtfi :
    ends ({ machine [0x7F, 0x94] [] [] with
        bpc := 0x1234, bpsw := Psw.ofWord false 0x30000 })
      (fun t => t.psw.toWord == 0x30000 && t.pc == 0x1234 && !t.psw.c && !t.psw.z && !t.psw.s &&
        !t.psw.o) = true := by
  decide

/-- Vector 241: `MULHI R1, R2`. -/
theorem test_vector_241_mulhi :
    ends ({ machine [0xFD, 0x00, 0x12] [(1, 0x7FFF0000), (2, 0x7FFF0000)] [] with
        acc := 0x1111111111111111 })
      (fun t => t.acc == 0x3FFF00010000 && t.pc == 0x1003 && !t.psw.c && !t.psw.z && !t.psw.s &&
        !t.psw.o) = true := by
  decide

/-- Vector 242: `MULHI R1, R2`. -/
theorem test_vector_242_mulhi :
    ends (machine [0xFD, 0x00, 0x12] [(1, 0x80000000), (2, 0x80000000)] [])
      (fun t => t.acc == 0x400000000000 && t.pc == 0x1003 && !t.psw.c && !t.psw.z && !t.psw.s &&
        !t.psw.o) = true := by
  decide

/-- Vector 243: `MULLO R1, R2`. -/
theorem test_vector_243_mullo :
    ends (machine [0xFD, 0x01, 0x12] [(1, 0xFFFF), (2, 0x2)] [])
      (fun t => t.acc == 0xFFFFFFFFFFFE0000 && t.pc == 0x1003 && !t.psw.c && !t.psw.z && !t.psw.s &&
        !t.psw.o) = true := by
  decide

/-- Vector 244: `MACHI R1, R2`. -/
theorem test_vector_244_machi :
    ends (machine [0xFD, 0x04, 0x12] [(1, 0x20000), (2, 0xFFFD0000)] [])
      (fun t => t.acc == 0xFFFFFFFFFFFA0000 && t.pc == 0x1003 && !t.psw.c && !t.psw.z && !t.psw.s &&
        !t.psw.o) = true := by
  decide

/-- Vector 245: `MACLO R1, R2`. -/
theorem test_vector_245_maclo :
    ends ({ machine [0xFD, 0x05, 0x12] [(1, 0x3), (2, 0x4)] [] with
        acc := 0x10000 })
      (fun t => t.acc == 0xD0000 && t.pc == 0x1003 && !t.psw.c && !t.psw.z && !t.psw.s && !t.psw.o) = true := by
  decide

/-- Vector 246: `MACLO R1, R2`. -/
theorem test_vector_246_maclo :
    ends ({ machine [0xFD, 0x05, 0x12] [(1, 0x8000), (2, 0x8000)] [] with
        acc := 0x7FFFFFFFFFFF0000 })
      (fun t => t.acc == 0x80003FFFFFFF0000 && t.pc == 0x1003 && !t.psw.c && !t.psw.z && !t.psw.s &&
        !t.psw.o) = true := by
  decide

/-- Vector 247: `MVTACHI R1`. -/
theorem test_vector_247_mvtachi :
    ends ({ machine [0xFD, 0x17, 0x01] [(1, 0x1234567)] [] with
        acc := 0xFFFFFFFF89ABCDEF })
      (fun t => t.acc == 0x123456789ABCDEF && t.pc == 0x1003 && !t.psw.c && !t.psw.z && !t.psw.s &&
        !t.psw.o) = true := by
  decide

/-- Vector 248: `MVTACLO R1`. -/
theorem test_vector_248_mvtaclo :
    ends ({ machine [0xFD, 0x17, 0x11] [(1, 0x1234567)] [] with
        acc := 0xFFFFFFFF89ABCDEF })
      (fun t => t.acc == 0xFFFFFFFF01234567 && t.pc == 0x1003 && !t.psw.c && !t.psw.z && !t.psw.s &&
        !t.psw.o) = true := by
  decide

/-- Vector 249: `MVFACHI R1`. -/
theorem test_vector_249_mvfachi :
    ends ({ machine [0xFD, 0x1F, 0x01] [] [] with
        acc := 0x123456789ABCDEF })
      (fun t => t.reg 1 == 0x1234567 && t.pc == 0x1003 && !t.psw.c && !t.psw.z && !t.psw.s && !t.psw.o) = true := by
  decide

/-- Vector 250: `MVFACMI R1`. -/
theorem test_vector_250_mvfacmi :
    ends ({ machine [0xFD, 0x1F, 0x21] [] [] with
        acc := 0x123456789ABCDEF })
      (fun t => t.reg 1 == 0x456789AB && t.pc == 0x1003 && !t.psw.c && !t.psw.z && !t.psw.s && !t.psw.o) = true := by
  decide

/-- Vector 252: `RACW #1`. -/
theorem test_vector_252_racw :
    ends ({ machine [0xFD, 0x18, 0x00] [] [] with
        acc := 0x1234C0000000 })
      (fun t => t.acc == 0x246A00000000 && t.pc == 0x1003 && !t.psw.c && !t.psw.z && !t.psw.s &&
        !t.psw.o) = true := by
  decide

/-- Vector 254: `RACW #1`. -/
theorem test_vector_254_racw :
    ends ({ machine [0xFD, 0x18, 0x00] [] [] with
        acc := 0xFFFF000000000000 })
      (fun t => t.acc == 0xFFFF800000000000 && t.pc == 0x1003 && !t.psw.c && !t.psw.z && !t.psw.s &&
        !t.psw.o) = true := by
  decide

/-- Vector 302: `FADD R1, R2`. -/
theorem test_vector_302_fadd :
    ends (machine [0xFC, 0x8B, 0x12] [(1, 0x33800000), (2, 0x3F800000)] [])
      (fun t => t.reg 2 == 0x3F800000 && t.fpsw.toWord == 0x40000140 && t.pc == 0x1003 && !t.psw.z &&
        !t.psw.s) = true := by
  decide

/-- Vector 305: `FADD R1, R2`. -/
theorem test_vector_305_fadd :
    ends (machine [0xFC, 0x8B, 0x12] [(1, 0x7F7FFFFF), (2, 0x7F7FFFFF)] [])
      (fun t => t.reg 2 == 0x7F800000 && t.fpsw.toWord == 0xC8000148 && t.pc == 0x1003 && !t.psw.z &&
        !t.psw.s) = true := by
  decide

/-- Vector 309: `FADD R1, R2`. -/
theorem test_vector_309_fadd :
    ends (machine [0xFC, 0x8B, 0x12] [(1, 0xFF800000), (2, 0x7F800000)] [])
      (fun t => t.reg 2 == 0x7FFFFFFF && t.fpsw.toWord == 0x84000104 && t.pc == 0x1003 && !t.psw.z &&
        !t.psw.s) = true := by
  decide

/-- Vector 325: `FSUB R1, R2`. -/
theorem test_vector_325_fsub :
    ends (machine [0xFC, 0x83, 0x12] [(1, 0x3F800000), (2, 0x40400000)] [])
      (fun t => t.reg 2 == 0x40000000 && t.fpsw.toWord == 0x100 && t.pc == 0x1003 && !t.psw.z &&
        !t.psw.s) = true := by
  decide

/-- Vector 328: `FSUB R1, R2`. -/
theorem test_vector_328_fsub :
    ends (machine [0xFC, 0x83, 0x12] [(1, 0x3F800000), (2, 0x0)] [])
      (fun t => t.reg 2 == 0xBF800000 && t.fpsw.toWord == 0x100 && t.pc == 0x1003 && !t.psw.z && t.psw.s) = true := by
  decide

/-- Vector 331: `FMUL R1, R2`. -/
theorem test_vector_331_fmul :
    ends (machine [0xFC, 0x8F, 0x12] [(1, 0x40000000), (2, 0x40400000)] [])
      (fun t => t.reg 2 == 0x40C00000 && t.fpsw.toWord == 0x100 && t.pc == 0x1003 && !t.psw.z &&
        !t.psw.s) = true := by
  decide

/-- Vector 337: `FMUL R1, R2`. -/
theorem test_vector_337_fmul :
    ends ({ machine [0xFC, 0x8F, 0x12] [(1, 0xC0000000), (2, 0x7F7FFFFF)] [] with
        fpsw := Fpsw.reset.write 0x103 })
      (fun t => t.reg 2 == 0xFF800000 && t.fpsw.toWord == 0xC800014B && t.pc == 0x1003 && !t.psw.z &&
        t.psw.s) = true := by
  decide

/-- Vector 342: `FDIV R1, R2`. -/
theorem test_vector_342_fdiv :
    ends (machine [0xFC, 0x93, 0x12] [(1, 0x40400000), (2, 0x3F800000)] [])
      (fun t => t.reg 2 == 0x3EAAAAAB && t.fpsw.toWord == 0x40000140 && t.pc == 0x1003 && !t.psw.z &&
        !t.psw.s) = true := by
  decide

/-- Vector 349: `FDIV R1, R2`. -/
theorem test_vector_349_fdiv :
    ends (machine [0xFC, 0x93, 0x12] [(1, 0x0), (2, 0x7FC00000)] [])
      (fun t => t.reg 2 == 0x7FC00000 && t.fpsw.toWord == 0x100 && t.pc == 0x1003 && !t.psw.z &&
        !t.psw.s) = true := by
  decide

/-- Vector 367: `FTOI R1, R2`. -/
theorem test_vector_367_ftoi :
    ends (machine [0xFC, 0x97, 0x12] [(1, 0xBF800000), (2, 0x0)] [])
      (fun t => t.reg 2 == 0xFFFFFFFF && t.fpsw.toWord == 0x100 && t.pc == 0x1003 && !t.psw.z && t.psw.s) = true := by
  decide

/-- Vector 372: `FTOI R1, R2`. -/
theorem test_vector_372_ftoi :
    ends (machine [0xFC, 0x97, 0x12] [(1, 0xCF000001), (2, 0x0)] [])
      (fun t => t.reg 2 == 0x80000000 && t.fpsw.toWord == 0x84000104 && t.pc == 0x1003 && !t.psw.z &&
        t.psw.s) = true := by
  decide

/-- Vector 381: `ROUND R1, R2`. -/
theorem test_vector_381_round :
    ends (machine [0xFC, 0x9B, 0x12] [(1, 0x40200000), (2, 0x0)] [])
      (fun t => t.reg 2 == 0x2 && t.fpsw.toWord == 0x40000140 && t.pc == 0x1003 && !t.psw.z && !t.psw.s) = true := by
  decide

/-- Vector 385: `ROUND R1, R2`. -/
theorem test_vector_385_round :
    ends (machine [0xFC, 0x9B, 0x12] [(1, 0xBF000000), (2, 0x55)] [])
      (fun t => t.reg 2 == 0x0 && t.fpsw.toWord == 0x40000140 && t.pc == 0x1003 && t.psw.z && !t.psw.s) = true := by
  decide

/-- Vector 390: `ITOF R1, R2`. -/
theorem test_vector_390_itof :
    ends ({ machine [0xFC, 0x47, 0x12] [(1, 0x0), (2, 0x55)] [] with
        fpsw := Fpsw.reset.write 0x103 })
      (fun t => t.reg 2 == 0x0 && t.fpsw.toWord == 0x103 && t.pc == 0x1003 && t.psw.z && !t.psw.s) = true := by
  decide

/-- Vector 395: `ITOF R1, R2`. -/
theorem test_vector_395_itof :
    ends (machine [0xFC, 0x47, 0x12] [(1, 0x1000003), (2, 0x0)] [])
      (fun t => t.reg 2 == 0x4B800002 && t.fpsw.toWord == 0x40000140 && t.pc == 0x1003 && !t.psw.z &&
        !t.psw.s) = true := by
  decide

/-- Vector 355: `FCMP R1, R2`. -/
theorem test_vector_355_fcmp : ends (machine [0xFC, 0x87, 0x12] [(1, 0x40000000), (2, 0x3F800000)] [])
    (fun t => t.psw.s && !t.psw.o && !t.psw.z && t.fpsw.toWord == 0x100 && t.pc == 0x1003) = true := by decide

/-- Vector 363: `FCMP R1, R2` of an SNaN with EV = 1 traps. -/
theorem test_vector_363_fcmp :
    ends { machine [0xFC, 0x87, 0x12] [(1, 0x7F800001), (2, 0x3F800000)] [(0xFFFFFFE4, [0, 0xF2])] with
        fpsw := Fpsw.reset.write 0x500 }
      (fun t => t.fpsw.toWord == 0x504 && t.pc == 0xF200 && t.peek 0x1FF8 .l == 0x1000) = true := by decide

/-- Vector 238: `WAIT`. -/
theorem test_vector_238_wait : ends (machine [0x7F, 0x96] [] [])
    (fun t => t.waiting && t.psw.toWord == 0x00010000 && t.pc == 0x1002) = true := by decide

/-- Vector 239: `WAIT` in user mode; also R640 2. -/
theorem test_vector_239_wait :
    ends { machine [0x7F, 0x96] [] [(0xFFFFFFD0, [0, 0xF1])] with psw := Psw.ofWord false 0x00130000 }
      (fun t => t.isp == 0x1FF8 && t.peek 0x1FFC .l == 0x00130000 && t.peek 0x1FF8 .l == 0x1000 &&
        t.psw.toWord == 0 && t.pc == 0xF100 && !t.waiting) = true := by decide

/-- Vector 231: the high nibble of MVTIPL. -/
theorem test_vector_231_mvtipl : ends (machine [0x75, 0x70, 0x12] [] [(0xFFFFFFDC, [0, 0xF0])])
    (fun t => t.pc == 0xF000 && t.peek 0x1FF8 .l == 0x1000) = true := by decide

/-- Vector 53: `RMPA.L`, its one iteration. -/
theorem test_vector_53_rmpa :
    ends (machine [0x7F, 0x8E] [(1, 0x3000), (2, 0x3100), (3, 1), (4, 0xFFFFFFFF), (5, 0x7FFFFFFF)]
        [(0x3000, [1]), (0x3100, [1])])
      (fun t => t.reg 3 == 0 && t.reg 4 == 0 && t.reg 5 == 0x80000000 && t.reg 6 == 0 && t.psw.o && !t.psw.s &&
        t.pc == 0x1002) = true := by decide

/-- Vector 51: `RMPA.W`, the first of its two iterations. -/
theorem test_vector_51_rmpa :
    ends (machine [0x7F, 0x8D] [(1, 0x3000), (2, 0x3100), (3, 2)] [(0x3000, [2, 0, 0xFD, 0xFF]), (0x3100, [3, 0,
      4, 0])])
      (fun t => t.reg 3 == 1 && t.reg 4 == 6 && t.reg 1 == 0x3002 && t.reg 2 == 0x3102 && t.pc == 0x1000) = true := by
  decide

/-- P4: a start asks that R6 be the sign of R5. -/
theorem test_rmpa_start :
    step (machine [0x7F, 0x8E] [(3, 1), (6, 1)] []) = .refused .rmpaOperands ∧
    step (machine [0x7F, 0x8E] [(3, 1), (5, 0x80000000)] []) = .refused .rmpaOperands := ⟨by rfl, by rfl⟩

/-- P6: RMPA under way goes on from what the registers hold. -/
theorem test_rmpa_underway :
    ends { machine [0x7F, 0x8E] [(1, 0x3000), (2, 0x3000), (3, 1), (5, 0x80000000), (6, 1)] [(0x3000, [3])] with
        rmpa := { running := some 0x1000, suspended := [] } }
      (fun t => t.reg 4 == 9 && t.reg 5 == 0x80000000 && t.reg 6 == 1 && t.rmpa.running.isNone && t.psw.o &&
        t.pc == 0x1002) = true := by decide

/-- R501: returns to a suspended RMPA go on with it, however many there are. -/
theorem test_rmpa_nested :
    ends { machine [0x7F, 0x95] [] [(0x2000, [0, 0x10]), (0x2008, [0, 0x10])] with
        rmpa := { running := none, suspended := [0x1000] } }
      (fun t => t.rmpa.running == some 0x1000 && t.pc == 0x1000 && ends t fun u => u.rmpa.running == some 0x1000) =
      true := by decide

/-- Vector 195: `SMOVF`, its first iteration. -/
theorem test_vector_195_smovf :
    ends (machine [0x7F, 0x8F] [(1, 0x3100), (2, 0x3000), (3, 3)] [(0x3000, [0x61, 0x62, 0x63])])
      (fun t => t.byteAt 0x3100 == 0x61 && t.byteAt 0x3101 == 0 && t.reg 1 == 0x3101 && t.reg 2 == 0x3001 &&
        t.reg 3 == 2 && t.pc == 0x1000) = true := by decide

/-- Vector 197: `SMOVF` whose destination lies in what is still to be read. -/
theorem test_vector_197_smovf :
    step (machine [0x7F, 0x8F] [(1, 0x3001), (2, 0x3000), (3, 3)] []) = .refused .stringOverlap := by rfl

/-- Vector 199: `SMOVB`, its first iteration. -/
theorem test_vector_199_smovb :
    ends (machine [0x7F, 0x8B] [(1, 0x3103), (2, 0x3003), (3, 4)] [(0x3000, [1, 2, 3, 4])])
      (fun t => t.byteAt 0x3103 == 4 && t.reg 1 == 0x3102 && t.reg 2 == 0x3002 && t.reg 3 == 3) = true := by decide

/-- Vector 200: `SMOVU`, the iteration that moves the null. -/
theorem test_vector_200_smovu :
    ends (machine [0x7F, 0x87] [(1, 0x3102), (2, 0x3002), (3, 8)] [(0x3000, [0x68, 0x69, 0, 0x7A]), (0x3102, [7])])
      (fun t => t.byteAt 0x3102 == 0 && t.reg 3 == 7 && t.pc == 0x1002) = true := by decide

/-- Vector 203: `SSTR.L`, big endian. -/
theorem test_vector_203_sstr :
    ends { machine [0x7F, 0x8A] [(1, 0x3000), (2, 0x1234ABCD), (3, 1)] [] with product := bigProduct }
      (fun t => t.byteAt 0x3000 == 0x12 && t.byteAt 0x3003 == 0xCD && t.reg 1 == 0x3004 &&
        t.pc == 0x1002) = true := by
  decide

/-- Vector 206: `SUNTIL.W`, the iteration that finds the element. -/
theorem test_vector_206_suntil :
    ends (machine [0x7F, 0x81] [(1, 0x3002), (2, 0x8001), (3, 1)] [(0x3002, [1, 0x80])])
      (fun t => t.reg 1 == 0x3004 && t.reg 3 == 0 && t.psw.c && t.psw.z && t.pc == 0x1002) = true := by decide

/-- Vector 207: `SWHILE.B`, the iteration that ends it. -/
theorem test_vector_207_swhile :
    ends (machine [0x7F, 0x84] [(1, 0x3002), (2, 0x20), (3, 6)] [(0x3002, [0x78])])
      (fun t => t.reg 1 == 0x3003 && t.reg 3 == 5 && t.psw.c && !t.psw.z && t.pc == 0x1002) = true := by decide

/-- Vector 209: `SCMPU`, the iteration that ends it. -/
theorem test_vector_209_scmpu :
    ends (machine [0x7F, 0x83] [(1, 0x3001), (2, 0x3101), (3, 3)] [(0x3001, [0x62]), (0x3101, [0x63])])
      (fun t => t.reg 3 == 2 && !t.psw.c && !t.psw.z && t.pc == 0x1002) = true := by decide

/-! ### The exception entries of R640 -/

/-- R640 1: an undefined instruction in user mode. -/
theorem test_entry_undefined :
    ends { machine [0x01] [] [(0xFFFFFFDC, [0, 0xF0])] with psw := Psw.ofWord false 0x00130003 }
      (fun t => t.peek 0x1FFC .l == 0x00130003 && t.peek 0x1FF8 .l == 0x1000 && t.isp == 0x1FF8 && t.usp == 0x7000 &&
        t.psw.toWord == 3 && t.pc == 0xF000) = true := by decide

/-- An input with a request. -/
def asking (vector : BitVec 8) (level : BitVec 4) (source : Nat) (fast : Option Nat) : Input :=
  let irq : Irq := { vector := vector, level := level, source := source }
  { Input.quiet with request := some irq, fastSource := fast }

/-- The machine of R640 3 to 5: IPL = 2, NOP next, a request with vector 64 at a level. -/
def pendingIrq (psw : Word) (level : BitVec 4) : State :=
  { machine [0x03] [] [(0x0500, [0, 0xE0])] with
    psw := Psw.ofWord false psw
    inputs := [asking 64 level 0 none] }

/-- R640 3. -/
theorem test_entry_interrupt : ends (pendingIrq 0x02010000 3)
    (fun t => t.peek 0x1FFC .l == 0x02010000 && t.peek 0x1FF8 .l == 0x1000 && t.isp == 0x1FF8 &&
      t.psw.toWord == 0x03000000 && t.pc == 0xE000 && t.ack.isSome) = true := by decide

/-- R640 4 and 5. -/
theorem test_entry_masked : ends (pendingIrq 0x02010000 2) (fun t => t.pc == 0x1001 && t.isp == 0x2000) = true ∧
    ends (pendingIrq 0x02000000 3) (fun t => t.pc == 0x1001 && t.ack.isNone) = true := by decide

/-- R640 6: the fast interrupt. -/
theorem test_entry_fast :
    ends { pendingIrq 0x00130008 15 with
        pc := 0x1234, fintv := 0xD000
        inputs := [asking 9 15 4 (some 4)] }
      (fun t => t.bpsw.toWord == 0x00130008 && t.bpc == 0x1234 && t.psw.toWord == 0x0F000008 && t.pc == 0xD000 &&
        t.isp == 0x2000 && t.byteAt 0x1FFE == 0) = true := by decide

/-- R640 7: the NMI. -/
theorem test_entry_nmi :
    ends { machine [0x03] [] [(0xFFFFFFF8, [0, 0xC0])] with psw := Psw.ofWord false 0x05010000, nmiPending := true }
      (fun t => t.peek 0x1FFC .l == 0x05010000 && t.peek 0x1FF8 .l == 0x1000 && t.psw.toWord == 0x0F000000 &&
        t.pc == 0xC000 && !t.nmiPending) = true := by decide

/-- R640 9: a request between two iterations of SMOVF. -/
theorem test_entry_suspends_string :
    ends { machine [0x7F, 0x8F] [(1, 0x3001), (2, 0x4001), (3, 2)] [(0x0500, [0, 0xA0])] with
        psw := Psw.ofWord false 0x00010000
        inputs := (pendingIrq 0 1).inputs }
      (fun t => t.peek 0x1FF8 .l == 0x1000 && t.psw.toWord == 0x01000000 && t.pc == 0xA000 && t.reg 1 == 0x3001 &&
        t.reg 3 == 2) = true := by decide

/-- R670, R671: reset takes the PC from FFFFFFFCh. -/
theorem test_reset :
    ends { machine [0x03] [] [(0xFFFFFFFC, [0, 0x80])] with
        psw := Psw.ofWord false 0x05130000, waiting := true
        inputs := [{ Input.quiet with reset := true }] }
      (fun t => t.pc == 0x8000 && t.psw.toWord == 0 && t.fpsw.toWord == 0x100 && !t.waiting) = true := by decide

/-- R612: an access exception saves the address of the instruction and leaves its registers. -/
theorem test_entry_access :
    ends { machine [0xEC, 0x12] [(1, 0x3000), (2, 7)] [(0xFFFFFFD4, [0, 0xB0])] with
        product := { Product.default with hasMpu := true, faults := [⟨0x3000, 0x3000, some 4, .read, false⟩] } }
      (fun t => t.pc == 0xB000 && t.peek 0x1FF8 .l == 0x1000 && t.reg 2 == 7 && t.isp == 0x1FF8) = true := by decide

/-! ### Witnesses: states and operands that meet the hypotheses of the obligations -/

/-- R1 points at readable data, R2 at writable data, R3 is a small count. -/
def box : State := machine [0x62, 0xF2] [(1, 0x3000), (2, 0x3100), (3, 2), (5, 7)] [(0x3000, [0x80, 0x81, 2, 3])]

/-- The same in user mode, with the user stack. -/
def userBox : State := { box with psw := { Psw.zero with pm := true, u := true } }

/-- A protection unit that forbids reads in one page, writes in the next, fetches in a third, and the fetch of one
more byte. -/
def walled : Product :=
  { Product.default with
    hasMpu := true
    faults := [⟨0x3000, 0x30FF, none, .read, false⟩, ⟨0x3100, 0x31FF, none, .write, false⟩,
      ⟨0x1001, 0x1001, none, .fetch, false⟩] }

/-- `box` behind the protection unit: R1 points at what may not be read, R2 at what may be read and not written. -/
def guarded : State := { box with product := walled }

/-- `guarded` with the stack pointer at an address. -/
def guardedSp (a : Word) : State := { guarded with isp := a }

/-- `box` with an input queued. -/
def withInput (i : Input) : State := { box with inputs := [i] }

/-- A request at level 5 from source 1. -/
def request5 : Irq := { vector := 64, level := 5, source := 1 }

/-- `box` that samples the request, with I, an IPL and a fast source as given. -/
def requested (i : Bool) (ipl : BitVec 4) (fast : Option Nat) : State :=
  { withInput { Input.quiet with request := some request5, fastSource := fast } with
    psw := { Psw.zero with i := i, ipl := ipl } }

theorem witness_DecodeInvertsEncode :
    (Instr.emulRm (.reg 0) 14).wellFormed = true ∧ (Instr.pushm 14 15).wellFormed = true ∧
      (Instr.mvtipl 15).wellFormed = true ∧ (Instr.mvtipl 15).installed Product.default = true ∧
      (Instr.faddImm 0 0).installed Product.default = true := by decide

theorem witness_DecodeReadsOnlyEncodings :
    decode Product.default [0xF8, 0x1E, 0x01, 0xFF] = .instr (.movImmMem .l (.s24 0xFF01) 1 .none) [] ∨
      decode Product.default [0x6E, 0x13, 0x03] = .instr (.pushm 1 3) [0x03] := by decide

/-- Each conditional clause at the ends of its ranges. -/
theorem witness_ReservedPatternsAreUndefined :
    (∀ c ∈ ([4, 7, 13, 15] : List (BitVec 4)), (4 ≤ c.toNat ∧ c.toNat ≤ 7) ∨ 13 ≤ c.toNat) ∧
    (∀ c ∈ ([1, 4, 7, 13, 15] : List (BitVec 4)), c.toNat = 1 ∨ (4 ≤ c.toNat ∧ c.toNat ≤ 7) ∨ 13 ≤ c.toNat) ∧
    (∀ c ∈ ([4, 7, 10, 15] : List (BitVec 4)), (4 ≤ c.toNat ∧ c.toNat ≤ 7) ∨ 10 ≤ c.toNat) ∧
    (∀ l ∈ ([0, 2] : List (BitVec 2)), l ≠ 3) ∧ (∀ m ∈ ([0, 1, 3] : List (BitVec 2)), m ≠ 2) ∧
    (∀ a ∈ ([1, 15] : List (BitVec 4)), a ≠ 0) ∧ (∀ y ∈ ([1, 7] : List (BitVec 3)), y ≠ 0) ∧
    ∃ why, decode Product.default [0xFD, 0x6A, 0x41] = .undefined why := by
  refine ⟨by decide, by decide, by decide, by decide, by decide, by decide, by decide, ⟨_, rfl⟩⟩

/-- The clauses of single bytes, at the ends of their ranges and beside them: bytes that are an instruction's are
read as such. -/
theorem witness_ReservedPatternsAreUndefined_bytes :
    (∀ v ∈ ([0x06, 0x16, 0x19, 0x1E, 0x30, 0x37, 0x3E, 0x5F] : List Byte),
      (0x06 ≤ v.toNat ∧ v.toNat ≤ 0x16) ∨ (0x19 ≤ v.toNat ∧ v.toNat ≤ 0x1E) ∨ (0x30 ≤ v.toNat ∧ v.toNat ≤ 0x37) ∨
        (0x3E ≤ v.toNat ∧ v.toNat ≤ 0x5F)) ∧
    (∀ o ∈ ([18, 23, 28, 31, 39, 51] : List (BitVec 6)), (18 ≤ o.toNat ∧ o.toNat ≤ 23) ∨
      (28 ≤ o.toNat ∧ o.toNat ≤ 31) ∨ (39 ≤ o.toNat ∧ o.toNat ≤ 51)) ∧
    decode Product.default [0xFD, 0x05, 0x12] = .instr (.maclo 1 2) [] ∧
    decode Product.default [0xFD, 0x17, 0x12] = .instr (.mvtaclo 2) [] ∧
    decode Product.default [0xFD, 0x1F, 0x22] = .instr (.mvfacmi 2) [] ∧
    decode Product.default [0xFB, 0x22, 0x78, 0x56, 0x34, 0x12] = .instr (.movImm (.i32 0x12345678) 2) [] ∧
    decode Product.default [0xF8, 0x29, 0x34, 0x12] = .instr (.movImmMem .w (.s16 0x1234) 2 .none) [] := by decide

theorem witness_StepRunsDecodedInstruction :
    box.Undisturbed ∧ box.waiting = false ∧ decode box.product (box.codeBytes 2) = .instr (.addUimm4 15 2) [] ∧
      ∀ k < 2, box.faultAt (box.after k) 1 .fetch = false :=
  ⟨⟨by decide, by decide, by decide⟩, by decide, by decide, by decide⟩

/-- The longest instruction, of 8 bytes. -/
theorem witness_StepRunsDecodedInstruction_longest :
    let s := machine [0xFA, 0x32, 0x34, 0x12, 0x78, 0x56, 0x34, 0x12] [] []
    s.Undisturbed ∧ s.waiting = false ∧ (8 : Nat) ≤ 8 ∧
      decode s.product (s.codeBytes 8) = .instr (.movImmMem .l (.i32 0x12345678) 3 (.d16 0x1234)) [] ∧
      ∀ k < 8, s.faultAt (s.after k) 1 .fetch = false :=
  ⟨⟨by decide, by decide, by decide⟩, by decide, by decide, by decide, by decide⟩

theorem witness_StepKeepsLegalStates :
    box.Legal ∧ ends box (fun _ => true) = true ∧ userBox.Legal ∧ ends userBox (fun _ => true) = true :=
  ⟨⟨by decide, by decide, by decide, by decide⟩, by decide, ⟨by decide, by decide, by decide, by decide⟩, by decide⟩

/-- Both clauses: the reset vector can be read, and it cannot. -/
theorem witness_ResetInitialisesTheMachine :
    let s := withInput { Input.quiet with reset := true }
    let p := { walled with faults := [⟨0xFFFFFFFC, 0xFFFFFFFC, none, .read, false⟩] }
    s.input.reset = true ∧ s.product.memFault 0xFFFFFFFC 4 .read false = false ∧
      ({ s with product := p } : State).input.reset = true ∧ p.memFault 0xFFFFFFFC 4 .read false = true := by decide

/-- An NMI event, a latched NMI, a request one level above IPL, the fast source one level below its own. -/
theorem witness_AcceptableInputsAreEntered :
    let n := withInput { Input.quiet with nmi := true }
    let r := requested true 4 none
    let f := requested true 14 (some 1)
    (Memory.wf n.mem = true ∧ n.input.reset = false ∧ n.input.nmi = true) ∧
    (Memory.wf r.mem = true ∧ r.input.reset = false ∧ r.nmiPending = false ∧ r.input.nmi = false ∧ r.psw.i = true ∧
      r.input.request = some request5 ∧ r.input.fastSource ≠ some request5.source ∧
      r.psw.ipl < maskLevel r.product.ipl3 request5.level) ∧
    (Memory.wf f.mem = true ∧ f.input.reset = false ∧ f.nmiPending = false ∧ f.input.nmi = false ∧ f.psw.i = true ∧
      f.input.request = some request5 ∧ f.input.fastSource = some request5.source ∧
      f.psw.ipl.toNat < if f.product.ipl3 then 7 else 15) := by decide

/-- WAIT in supervisor mode; a request with I = 0, at the level of IPL, and from the fast source at level 15. -/
theorem witness_WaitingEndsOnlyByInputs :
    box.psw.pm = false ∧ (requested false 4 none).psw.i = false ∧
    (let r := requested true 5 none;
      r.input.fastSource ≠ some request5.source ∧
        (maskLevel r.product.ipl3 request5.level).toNat ≤ r.psw.ipl.toNat ∧ r.input.reset = false ∧
        r.sample.nmiPending = false ∧ r.waiting = false ∧ ({ r with waiting := true } : State).waiting = true) ∧
    (let f := requested true 15 (some 1);
      f.input.fastSource = some request5.source ∧ (if f.product.ipl3 then 7 else 15) ≤ f.psw.ipl.toNat) := by decide

/-- Whether an outcome is a next state. -/
def isNext (o : Out) : Bool :=
  match o with
  | .next _ => true
  | .fault _ => false
  | .refused _ => false

theorem witness_EntryWritesThePsw :
    Memory.wf box.mem = true ∧ isNext (box.enter .nmi 0x1000) = true ∧
      isNext (box.enter (.interrupt 64 15) 0x1000) = true ∧ isNext (box.enter .undefined 0x1000) = true := by decide

/-- The entry's accesses do not fault, and one of them does. -/
theorem witness_EntryFollowsTheVectorTable :
    Memory.wf box.mem = true ∧ box.CanEnter 0xFFFFFFD0 ∧
      (guardedSp 0x3104).product.memFault ((guardedSp 0x3104).isp - 4) 4 .write false = true :=
  ⟨by decide, ⟨by decide, by decide, by decide⟩, by decide⟩

theorem witness_PrivilegedInstructionsTrapInUserMode :
    Memory.wf userBox.mem = true ∧ userBox.psw.pm = true ∧ userBox.product.hasMvtipl = true := by decide

/-- A product without the floating-point instructions and MVTIPL. -/
def bare : Product := { Product.default with hasFpu := false, hasMvtipl := false }

theorem witness_AbsentInstructionsAreUndefined :
    (Instr.faddImm 0 0).wellFormed = true ∧ (Instr.faddImm 0 0).installed bare = false ∧
      (Instr.mvtipl 3).wellFormed = true ∧ (Instr.mvtipl 3).installed bare = false ∧
      ({ box with product := bare } : State).product.hasFpu = false ∧ (Instr.itofRm (.reg 1) 2).needsFpu = true ∧
      ({ box with product := bare } : State).product.hasMvtipl = false ∧ Memory.wf box.mem = true := by decide

/-- One byte that is no instruction; one byte of a longer instruction whose second byte may not be fetched. -/
theorem witness_BadFetchesTakeTheirException :
    let s := machine [0x01] [] []
    (s.Undisturbed ∧ s.waiting = false ∧ Memory.wf s.mem = true ∧ s.faultAt (s.after 0) 1 .fetch = false ∧
      ∃ why, decode s.product (s.codeBytes 1) = .undefined why) ∧
    (guarded.Undisturbed ∧ guarded.waiting = false ∧ Memory.wf guarded.mem = true ∧
      guarded.faultAt (guarded.after 0) 1 .fetch = false ∧ decode guarded.product (guarded.codeBytes 1) = .short ∧
      guarded.faultAt (guarded.after 1) 1 .fetch = true) :=
  ⟨⟨⟨by decide, by decide, by decide⟩, by decide, by decide, by decide, ⟨_, rfl⟩⟩,
    ⟨by decide, by decide, by decide⟩, by decide, by decide, by decide, by decide, by decide⟩

/-- Memory operands that may not be read, in each addressing mode. -/
theorem witness_FaultingAccessesCancelTheInstruction_read :
    Memory.wf guarded.mem = true ∧ guarded.product.hasFpu = true ∧
    (∀ sz : Size, guarded.faultAt (guarded.ea 1 .none sz) sz.bytes .read = true ∧
      guarded.faultAt (guarded.eaShort 1 0 sz) sz.bytes .read = true ∧
      guarded.faultAt (guarded.eaIndexed 0 1 sz) sz.bytes .read = false ∧
      guarded.faultAt (guarded.eaIndexed 4 1 sz) sz.bytes .read = true ∧
      guarded.faultAt (guarded.eaAuto .postInc 1 sz) sz.bytes .read = true) ∧
    (∀ mx : Memex, guarded.faultAt (guarded.ea 1 (.d8 31) mx.size) mx.size.bytes .read = true) := by
  refine ⟨by decide, by decide, fun sz => ?_, fun mx => ?_⟩
  · cases sz <;> decide
  · cases mx <;> decide

/-- Memory operands that may be read and not written, in each addressing mode. -/
theorem witness_FaultingAccessesCancelTheInstruction_write :
    (∀ sz : Size, guarded.faultAt (guarded.ea 2 .none sz) sz.bytes .read = false ∧
      guarded.faultAt (guarded.ea 2 .none sz) sz.bytes .write = true ∧
      guarded.faultAt (guarded.eaShort 2 31 sz) sz.bytes .write = true ∧
      guarded.faultAt (guarded.eaIndexed 4 2 sz) sz.bytes .write = true ∧
      guarded.faultAt (guarded.eaAuto .postInc 2 sz) sz.bytes .write = true) ∧
    (∀ mx : Memex, guarded.faultAt (guarded.ea 2 .none mx.size) mx.size.bytes .write = true) := by
  refine ⟨fun sz => ?_, fun mx => ?_⟩
  · cases sz <;> decide
  · cases mx <;> decide

/-- The stack, the register ranges (their first and last longwords) and the strings, at their first and second
access. -/
theorem witness_FaultingAccessesCancelTheInstruction_stack :
    (guardedSp 0x3104).faultAt ((guardedSp 0x3104).reg 0 - 4) 4 .write = true ∧
    (guardedSp 0x3000).faultAt ((guardedSp 0x3000).reg 0) 4 .read = true ∧ (guardedSp 0x3000).psw.pm = false ∧
    (guardedSp 0x2FFC).faultAt ((guardedSp 0x2FFC).reg 0 + 4 * BitVec.ofNat 32 1) 4 .read = true ∧
    (guardedSp 0x3208).faultAt ((guardedSp 0x3208).reg 0 - 4 * BitVec.ofNat 32 (2 + 1)) 4 .write = true ∧
    (guardedSp 0x2FFC).faultAt ((guardedSp 0x2FFC).reg 0 + 4) 4 .read = true ∧
    (guardedSp 0x2FFC).faultAt ((guardedSp 0x2FFC).reg 0) 4 .read = false ∧
    (guardedSp 0x2FFC).faultAt ((guardedSp 0x2FFC).reg 0 + 4 * (1 : BitVec 8).setWidth 32) 4 .read = true ∧
    ((2 : Nat) ≤ (6 : Reg).val - (5 : Reg).val + 1 ∧ (6 : Reg).val - (5 : Reg).val < (2 : BitVec 8).toNat ∧
      (guardedSp 0x30FC).faultAt ((guardedSp 0x30FC).reg 0 + 4 * (2 : BitVec 8).setWidth 32 - 4 * BitVec.ofNat 32 2) 4
        .read = true) ∧
    guarded.reg 3 ≠ 0 ∧ guarded.rmpaAdmits = true ∧ guarded.faultAt (guarded.reg 1) 1 .read = true ∧
    (let s := (guarded.setReg 1 0x3100).setReg 2 0x3000;
      s.faultAt (s.reg 2) 1 .read = true ∧ overlaps (s.reg 1 - s.reg 2) (s.reg 3) = false ∧
        overlaps (s.reg 2 - s.reg 1) (s.reg 3) = false ∧ s.faultAt (s.reg 1) 4 .write = true) ∧
    (let s := (guarded.setReg 1 0x3180).setReg 2 0x3100;
      s.faultAt (s.reg 2) 1 .read = false ∧ s.faultAt (s.reg 1) 1 .write = true ∧
        overlaps (s.reg 1 - s.reg 2) (s.reg 3) = false ∧ overlaps (s.reg 2 - s.reg 1) (s.reg 3) = false) ∧
    (let s := (guarded.setReg 1 0x3100).setReg 2 0x3000;
      s.faultAt (s.reg 1) 1 .read = false ∧ s.faultAt (s.reg 2) 1 .read = true) := by decide

theorem witness_ReturnsReloadPcAndPsw :
    box.psw.pm = false ∧ box.Readable (box.reg 0) 4 ∧ box.Readable (box.reg 0 + 4) 4 := by decide

/-- Both clauses, for a user-mode program. -/
theorem witness_ReturnUndoesEntry :
    userBox.Legal ∧ ends (userBox.setReg 4 0) (fun _ => true) = true ∧
      (match userBox.enter (.trap 3) 0x1003 with
        | .next t => decide (t.Readable (userBox.isp - 8) 4 ∧ t.Readable (userBox.isp - 4) 4)
        | .fault _ => false
        | .refused _ => false) = true :=
  ⟨⟨by decide, by decide, by decide, by decide⟩, by decide, by decide⟩

/-- A supervisor state whose step is an RTE to user mode. -/
theorem witness_OnlyReturnsEnterUserMode :
    let s := { machine [0x7F, 0x95] [] [(0x2000, [0x00, 0x40, 0, 0, 0, 0, 0x10, 0])] with pc := 0x1000 }
    s.psw.pm = false ∧ isNext (exec .rte s) = true ∧ isNext (exec .rtfi s) = true ∧ s.Readable (s.reg 0) 4 ∧
      s.Readable (s.reg 0 + 4) 4 ∧ ends s (fun t => t.psw.pm) = true := by decide

/-- Both clauses: an instruction that stays in user mode and one that leaves it. -/
theorem witness_UserModeCannotReachSupervisorState :
    userBox.psw.pm = true ∧ userBox.psw.u = true ∧
      (match exec (.addUimm4 15 2) userBox with
        | .next t => t.psw.pm
        | .fault _ => false
        | .refused _ => false) = true ∧
      (match exec .rte userBox with
        | .next t => !t.psw.pm
        | .fault _ => false
        | .refused _ => false) = true := by decide

/-- Equal memories, both byte orders, an access across the top of the address space. -/
theorem witness_MemoryHoldsBytesInOrder :
    Memory.wf [(5, 1), (0xFFFFFFFF, 2)] = true ∧ Memory.wf box.mem = true ∧ box.product.bigEndian = false ∧
      ({ box with product := bigProduct } : State).product.bigEndian = true ∧
      ((box.poke 0xFFFFFFFE .l 0x11223344).peek 0xFFFFFFFE .l) = 0x11223344 := by decide

theorem witness_MemorySourcesAreExtended :
    box.Readable (box.reg 1 + (Dsp.d8 255).field) 1 ∧ box.Readable (box.reg 1 + 2 * (Dsp.d16 0xFFFF).field) 2 ∧
      box.Readable (box.reg 1 + 4 * Dsp.none.field) 4 ∧ box.MxIs .b 1 .none 0xFFFFFF80 ∧
      box.RmIs (.mem 1 .none) 0x80 := by
  refine ⟨by decide, by decide, by decide, ⟨by decide, by decide⟩, ⟨by decide, by decide⟩⟩

/-- The operands the register, .UB, `mi` and longword forms read, here and in the other operand statements. -/
theorem witness_AdditionsGiveSumAndFlags :
    box.RmIs (.reg 0) 0x2000 ∧ box.RmIs (.mem 1 (.d8 1)) 0x81 ∧ box.MxIs .uw 1 .none 0x8180 ∧
      box.MxIs .w 1 .none 0xFFFF8180 ∧ box.LongIs 1 .none 0x03028180 ∧ box.LIs (.mem 1 .none) 0x03028180 := by
  refine ⟨rfl, ⟨by decide, by decide⟩, ⟨by decide, by decide⟩, ⟨by decide, by decide⟩, ⟨by decide, by decide⟩,
    ⟨by decide, by decide⟩⟩

/-- The last register that may start a pair; the undefined and the defined quotient. -/
theorem witness_ProductsAndQuotients :
    (14 : Reg) ≠ 15 ∧ box.RmIs (.reg 4) 0 ∧ (0 : Word).toInt = 0 ∧ box.RmIs (.reg 5) 7 ∧
      ¬((7 : Word).toInt = 0 ∨ ((0 : Word).toInt = -2 ^ 31 ∧ (7 : Word).toInt = -1)) := by
  exact ⟨by decide, rfl, by decide, rfl, by decide⟩

theorem witness_MaxMinAbsAndNegate :
    let s := box.setReg 6 0x80000000
    (0x80000000 : Word) = s.reg 6 ∧ (0x80000000 : Word).toInt = -2 ^ 31 ∧ (7 : Word) = s.reg 5 ∧
      (7 : Word).toInt ≠ -2 ^ 31 := by decide

theorem witness_SubtractionsGiveDifferenceAndFlags :
    box.RmIs (.mem 1 (.d16 4)) 0 ∧ box.MxIs .l 1 .none 0x03028180 ∧ box.LongIs 1 .none 0x03028180 := by
  refine ⟨⟨by decide, by decide⟩, ⟨by decide, by decide⟩, ⟨by decide, by decide⟩⟩

theorem witness_LogicGivesBitsAndZeroSign : box.RmIs (.reg 5) 7 ∧ box.MxIs .b 1 (.d8 1) 0xFFFFFF81 := by
  refine ⟨rfl, ⟨by decide, by decide⟩⟩

theorem witness_SaturationGivesTheNearestLimit :
    isNext (exec (.addRRR 1 2 6) box) = true ∧ isNext (exec (.subRRR 1 2 6) box) = true ∧ box.psw.o = false ∧
      ({ box with psw := { Psw.zero with o := true } } : State).psw.s = false ∧
      ({ box with psw := { Psw.zero with o := true, s := true } } : State).psw.o = true := by decide

/-- A count of 0 and of 31 in a register. -/
theorem witness_ShiftsGiveValueAndFlags :
    0 = ((box.setReg 6 0xFFFFFFE0).reg 6).toNat % 32 ∧ 31 = ((box.setReg 6 0xFFFFFFFF).reg 6).toNat % 32 := by decide

theorem witness_RotatesMoveEveryBit : 7 = (box.reg 5).toNat % 32 ∧ 0 = (box.reg 4).toNat % 32 := by decide

/-- Operands that do not trap, and, with an SNaN and EV = 1, ones that do. -/
theorem witness_FloatingPointInstructionsRunOrTrap :
    let f := { Fpsw.reset with ev := true }
    Memory.wf box.mem = true ∧ box.product.hasFpu = true ∧ (7 : Word) = box.reg 5 ∧
      ¬FpTraps box.fpsw (fpAdd box.fpsw 7 0x3F800000).2 ∧ FpTraps f (fpAdd f 7 0x7F800001).2 ∧
      3 = 3 + (RegOrMem.reg 1).len ∧ 5 = 3 + (RegOrMem.mem 1 (.d16 0)).len := by decide

/-- The least and the largest normalized numbers; an integer that is not 0 and one that is. -/
theorem witness_FloatingPointResultsAreCorrectlyRounded :
    IsNormal 0x00800000 ∧ IsNormal 0xFF7FFFFF ∧ ¬IsNormal 0x007FFFFF ∧ ¬IsNormal 0x7F800000 ∧
      (1 : Word).toInt ≠ 0 ∧ (0 : Word).toInt = 0 := by decide

/-- A number of each class. -/
theorem witness_SpecialOperandsFollowTheTables :
    isSNaN 0x7F800001 = true ∧ isSNaN 0x3F800000 = false ∧ isQNaN 0xFFC00000 = true ∧ isNaN 0x7F800000 = false ∧
      isDenormal 0x007FFFFF = true ∧ isDenormal 0x80000001 = true ∧ isDenormal 0x00800000 = false ∧
      IsNormal 0x00800000 ∧ Fpsw.reset.dn = true ∧ ({ Fpsw.reset with dn := false } : Fpsw).dn = false := by decide

/-- Operands of each clause. -/
theorem witness_ComparisonOrdersByValue :
    isSNaN 0x7F800001 = true ∧ isQNaN 0x7FC00000 = true ∧ isSNaN 0x7FC00000 = false ∧ isNaN 0x00000001 = false ∧
      isDenormal 0x00000001 = true ∧ isZero 0x80000000 = true ∧ IsNormal 0x3F800000 ∧ isInf 0xFF800000 = true := by
  decide

/-- Operands of each clause: 2^31 is outside the range, -2^31 is its end, 2^31 - 128 is the last number inside. -/
theorem witness_ConversionsToIntegerRound :
    isNaN 0x7FFFFFFF = true ∧ isInf 0xFF800000 = true ∧ isZero 0x80000000 = true ∧ isDenormal 0x007FFFFF = true ∧
      (IsNormal 0x4F000000 ∧ 2 ^ 31 ≤ |fpValue 0x4F000000| ∧ fpValue 0x4F000000 ≠ -2 ^ 31) ∧
      (IsNormal 0xCF000000 ∧ fpValue 0xCF000000 = -2 ^ 31) ∧ (IsNormal 0x4EFFFFFF ∧
        |fpValue 0x4EFFFFFF| < 2 ^ 31) := by
  have a : fpValue 0x4F000000 = 2 ^ 31 := by
    have e : fpExponent 0x4F000000 = 158 := by decide
    have m : significand 0x4F000000 = 0x800000 := by decide
    have g : (0x4F000000 : Word).msb = false := by decide
    rw [fpValue, e, m, g]
    norm_num
  have b : fpValue 0xCF000000 = -2 ^ 31 := by
    have e : fpExponent 0xCF000000 = 158 := by decide
    have m : significand 0xCF000000 = 0x800000 := by decide
    have g : (0xCF000000 : Word).msb = true := by decide
    rw [fpValue, e, m, g]
    norm_num
  have c : fpValue 0x4EFFFFFF = 2 ^ 31 - 128 := by
    have e : fpExponent 0x4EFFFFFF = 157 := by decide
    have m : significand 0x4EFFFFFF = 0xFFFFFF := by decide
    have g : (0x4EFFFFFF : Word).msb = false := by decide
    rw [fpValue, e, m, g]
    norm_num
  refine ⟨by decide, by decide, by decide, by decide, ⟨by decide, ?_, ?_⟩, ⟨by decide, b⟩, by decide, ?_⟩
  · rw [a]; norm_num
  · rw [a]; norm_num
  · rw [c]; norm_num

/-- Both clauses, and a pair of written values that differ in b31 alone. -/
theorem witness_FpswReadsAsItsRulesSay :
    let s := (box.setReg 6 0x80000000).setReg 7 0
    s.product.hasFpu = true ∧ s.reg 7 = s.reg 6 ^^^ 0x80000000 ∧ isNext (exec (.mvtcR 6 .fpsw) s) = true ∧
      isNext (exec (.mvtcR 7 .fpsw) s) = true ∧ bare.hasFpu = false ∧
      ({ box with product := bare } : State).Writable (({ box with product := bare } : State).reg 0 - 4) 4 ∧
      ({ box with product := bare } : State).Readable (({ box with product := bare } : State).reg 0) 4 := by decide

theorem witness_LoadsExtendIntoRegisters :
    box.Readable (box.ea 1 (.d16 0xFFFF) .l) Size.l.bytes ∧ box.Readable (box.eaShort 1 31 .b) Size.b.bytes ∧
      box.Readable (box.eaIndexed 3 1 .w) Size.w.bytes := by decide

/-- An address of each form; a source that can be read beside a destination that can be written. -/
theorem witness_StoresWriteOnlyTheirBytes :
    Memory.wf box.mem = true ∧ (0x3104 : Word) = box.ea 2 (.d8 1) .l ∧ box.Writable 0x3104 4 ∧
      (0x317C : Word) = box.eaShort 2 31 .l ∧ box.Writable 0x317C 4 ∧ (0x3102 : Word) = box.eaIndexed 3 2 .b ∧
      box.Writable 0x3102 1 ∧ box.Readable (box.ea 1 .none .l) 4 ∧ box.Readable (box.ea 1 .none .b) 1 ∧
      box.Writable (box.ea 1 .none .b) 1 := by decide

theorem witness_UpdatingAndIndexedModesAccessTheirAddress :
    Memory.wf box.mem = true ∧ (4 : Word) = BitVec.ofNat 32 Size.l.bytes ∧
      (2 : Word) = BitVec.ofNat 32 MovuSize.w.size.bytes ∧ box.Readable (box.reg 1) 4 ∧
      box.Readable (box.reg 1 - 4) 4 ∧ box.Writable (box.reg 2) 4 ∧ box.Writable (box.reg 2 - 4) 4 ∧
      box.Readable (box.reg 3 * 4 + box.reg 1) 4 ∧ box.Writable (box.reg 3 * 4 + box.reg 2) 4 := by decide

theorem witness_ByteReversalsReorderBytes :
    (0xF0 : Byte) = (BitVec.ofFin (15 : Reg) : BitVec 4) ++ (BitVec.ofFin (0 : Reg) : BitVec 4) := by decide

theorem witness_PushAndPopMoveOneLongword :
    Memory.wf box.mem = true ∧ box.Writable (box.reg 0 - 4) 4 ∧ box.Readable (box.ea 1 .none .w) 2 ∧
      box.Readable (box.reg 0) 4 ∧ CReg.usp ≠ .pc := by decide

/-- The whole range R1 to R15, two registers, and a range of one, which is reversed or equal. -/
theorem witness_RangesMoveInRegisterOrder :
    Memory.wf box.mem = true ∧ 0 < (1 : Reg).val ∧ (1 : Reg) < 15 ∧ 15 = (15 : Reg).val - (1 : Reg).val + 1 ∧
      (∀ k < 15, box.Writable (box.reg 0 - 4 * BitVec.ofNat 32 (k + 1)) 4) ∧
      (∀ k < 15, box.Readable (box.reg 0 + 4 * BitVec.ofNat 32 k) 4) ∧ (14 : Reg) < 15 ∧ ¬(5 : Reg) < 5 ∧
      ¬(15 : Reg) < 1 := by decide

theorem witness_PopmRestoresWhatPushmSaved :
    Memory.wf box.mem = true ∧ 0 < (1 : Reg).val ∧ (1 : Reg) < 3 ∧
      (∀ k < (3 : Reg).val - (1 : Reg).val + 1, box.Writable (box.reg 0 - 4 * BitVec.ofNat 32 (k + 1)) 4) ∧
      (match exec (.pushm 1 3) box with
        | .next t =>
          let u := (regRange 1 3).foldl (fun x r => x.setReg r 0) t
          decide (∀ k < (regRange 1 3).length, u.Readable (u.reg 0 + 4 * BitVec.ofNat 32 k) 4)
        | .fault _ => false
        | .refused _ => false) = true := by decide

theorem witness_ConditionsAfterCompare :
    box.RmIs (.reg 5) 7 ∧ isNext (exec (.cmpRm (.reg 5) 3) box) = true := by
  exact ⟨rfl, by decide⟩

/-- The shortest, the longest and the wrapped distance of the .S branches. -/
theorem witness_BranchesChangeOnlyThePc :
    (3 ≤ 3 ∧ 3 ≤ 10 ∧ 3 % 8 = (3 : BitVec 3).toNat) ∧ (3 ≤ 8 ∧ 8 ≤ 10 ∧ 8 % 8 = (0 : BitVec 3).toNat) ∧
      (3 ≤ 10 ∧ 10 ≤ 10 ∧ 10 % 8 = (2 : BitVec 3).toNat) := by decide

theorem witness_CallsPushTheReturnAddress :
    Memory.wf box.mem = true ∧ box.Writable (box.reg 0 - 4) 4 := by decide

/-- Each clause: a frame that fits exactly, one that is too short by one register, a reversed range. -/
theorem witness_ReturnsReleaseTheFrame :
    box.Readable (box.reg 0) 4 ∧ (0x2008 : Word) = box.reg 0 + 4 * (2 : BitVec 8).setWidth 32 ∧
      box.Readable 0x2008 4 ∧ 0 < (5 : Reg).val ∧ 2 = (6 : Reg).val - (5 : Reg).val + 1 ∧ (5 : Reg) ≤ 6 ∧
      2 ≤ (2 : BitVec 8).toNat ∧ (∀ k ≤ 2, box.Readable (0x2008 - 4 * BitVec.ofNat 32 k) 4) ∧
      (1 : BitVec 8).toNat < 2 ∧ (5 : Reg) < 6 := by decide

/-- A register bit number at the ends of its range, for a register and for a byte of memory. -/
theorem witness_BitsChangeAlone :
    let s := (box.setReg 6 0xFFFFFFFF).setReg 7 0x20
    Memory.wf s.mem = true ∧ 31 = (s.reg 6).toNat % 32 ∧ 0 = (s.reg 7).toNat % 32 ∧ 7 = (s.reg 6).toNat % 8 ∧
      0 = (s.reg 7).toNat % 8 ∧ (0x3000 : Word) = s.ea 1 .none .b ∧ s.Readable 0x3000 1 ∧ s.Writable 0x3000 1 := by
  decide

/-- Each clause: no count, an overlap by one byte in both directions, ranges that touch and equal ones. -/
theorem witness_StringMovesGoElementByElement :
    let s := box.setReg 3 0
    let f := (box.setReg 1 0x3001).setReg 2 0x3000
    let b := (box.setReg 1 0x3000).setReg 2 0x3001
    let e := (box.setReg 1 0x3002).setReg 2 0x3000
    s.reg 3 = 0 ∧ Memory.wf box.mem = true ∧ box.reg 3 ≠ 0 ∧ (2 : Word) = BitVec.ofNat 32 Size.w.bytes ∧
      (0 < (f.reg 1 - f.reg 2).toNat ∧ (f.reg 1 - f.reg 2).toNat < (f.reg 3).toNat) ∧
      (0 < (b.reg 2 - b.reg 1).toNat ∧ (b.reg 2 - b.reg 1).toNat < (b.reg 3).toNat) ∧
      (e.Readable (e.reg 2) 1 ∧ e.Writable (e.reg 1) 1 ∧ (e.reg 3).toNat ≤ (e.reg 1 - e.reg 2).toNat ∧
        (e.reg 3).toNat ≤ (e.reg 2 - e.reg 1).toNat ∧ e.reg 3 ≠ 1) ∧
      ((e.setReg 3 1).reg 3 = 1 ∧ e.Writable (e.reg 1) 2 ∧ e.byteAt (e.reg 2) ≠ 0) := by decide

/-- Equal bytes that go on, and bytes that differ. -/
theorem witness_StringSearchesCompareElementByElement :
    let e := (box.setReg 2 0x3000)
    box.reg 3 ≠ 0 ∧ (1 : Word) = BitVec.ofNat 32 Size.b.bytes ∧ (0x80 : Word) = box.peek (box.reg 1) .b ∧
      box.Readable (box.reg 1) 1 ∧ box.Readable (box.reg 2) 1 ∧ box.byteAt (box.reg 1) ≠ box.byteAt (box.reg 2) ∧
      e.byteAt (e.reg 1) = e.byteAt (e.reg 2) ∧ e.byteAt (e.reg 1) ≠ 0 ∧ e.reg 3 ≠ 1 := by decide

/-- `box` with its R3, R6 and R5 given: the start of an RMPA. -/
def rmpaStart (count high mid : Word) : State := ((box.setReg 3 count).setReg 6 high).setReg 5 mid

/-- The same with the RMPA at its PC under way. -/
def rmpaHalfway (count high mid : Word) : State :=
  { rmpaStart count high mid with rmpa := { running := some box.pc, suspended := [] } }

/-- The largest count and both signs of R6 that a start admits, the least count and the values of R6 it does not, an
RMPA under way with a sum beyond 64 bits, and the last iteration. -/
theorem witness_RmpaAccumulatesExactProducts :
    let admits (s : State) := (s.reg 3).toNat ≤ 0x10000 ∧ (s.reg 6).toInt = if (s.reg 5).toInt < 0 then -1 else 0
    box.reg 3 ≠ 0 ∧ (4 : Word) = BitVec.ofNat 32 Size.l.bytes ∧ box.rmpa.running ≠ some box.pc ∧
      admits (rmpaStart 0x10000 0 0x7FFFFFFF) ∧ admits (rmpaStart 1 0xFFFFFFFF 0x80000000) ∧
      0x10000 < ((rmpaStart 0x10001 0 0).reg 3).toNat ∧ ¬ admits (rmpaStart 1 1 0) ∧
      ¬ admits (rmpaStart 1 0xFFFFFFFF 0x7FFFFFFF) ∧ ¬ admits (rmpaStart 1 0 0x80000000) ∧
      ((rmpaHalfway 2 0 0x80000000).rmpa.running = some (rmpaHalfway 2 0 0x80000000).pc) ∧
      box.Readable (box.reg 1) 4 ∧ box.Readable (box.reg 2) 4 ∧ box.reg 3 ≠ 1 ∧ (rmpaStart 1 0 0).reg 3 = 1 := by
  decide

/-- Both kinds of entry, a step that keeps what is suspended, and returns to a suspended RMPA and to another address. -/
theorem witness_SuspendedRmpaResumes :
    let way := rmpaHalfway 2 1 0
    let later := { box with rmpa := { running := none, suspended := [0x1000] } }
    (way.rmpa.running = some way.pc ∧ isNext (way.enter .nmi way.pc) = true) ∧
    (later.input.reset = false ∧ isNext (step later) = true ∧ (0x1000 : Word) ∈ later.rmpa.suspended) ∧
    (let s := { later with bpc := 0x1000 }.poke later.isp .l 0x1000;
      s.psw.pm = false ∧ s.Readable (s.reg 0) 4 ∧ s.Readable (s.reg 0 + 4) 4 ∧ s.peek (s.reg 0) .l = 0x1000 ∧
        s.peek (s.reg 0) .l ∈ s.rmpa.suspended ∧ s.bpc ∈ s.rmpa.suspended) ∧
    (later.peek (later.reg 0) .l ∉ later.rmpa.suspended ∧ later.bpc ∉ later.rmpa.suspended) ∧
    way.rmpa.running = some way.pc := by decide

theorem witness_SmovfCopiesTheWholeString :
    let s := machine [0x7F, 0x8F] [(1, 0x3100), (2, 0x3000), (3, 4)] [(0x3000, [1, 2, 3, 4])]
    s.RunsAlone 0x7F 0x8F ∧ 4 = (s.reg 3).toNat ∧ 4 ≤ (s.reg 1 - s.reg 2).toNat ∧
      ∀ k < 4, s.reg 1 + BitVec.ofNat 32 k ≠ s.pc ∧ s.reg 1 + BitVec.ofNat 32 k ≠ s.pc + 1 := by decide

/-- A start, and one under way. -/
theorem witness_RmpaComputesTheDotProduct :
    let s := machine [0x7F, 0x8D] [(1, 0x3100), (2, 0x3000), (3, 2)] [(0x3000, [1, 2, 3, 4])]
    let w := { s.setReg 6 1 with rmpa := { running := some s.pc, suspended := [] } }
    s.RunsAlone 0x7F (0b100011#6 ++ Size.w.bits) ∧ 2 = (s.reg 3).toNat ∧ 2 ≤ 0x10000 ∧
      ((s.reg 6).toInt = if (s.reg 5).toInt < 0 then -1 else 0) ∧
      w.RunsAlone 0x7F (0b100011#6 ++ Size.w.bits) ∧ w.rmpa.running = some w.pc := by decide

theorem witness_PswBitsAreSetAndCleared :
    Memory.wf box.mem = true ∧ (false = false ∧ Instr.clrpsw .i = Instr.clrpsw .i) ∧ box.product.hasMvtipl = true ∧
      box.psw.pm = false ∧ userBox.psw.pm = true := by decide

theorem witness_PswWritesObeyTheMode :
    (box.reg 5 = box.reg 5 ∧ Instr.mvtcR 5 .psw = .mvtcR 5 .psw) ∧ box.Readable (box.reg 0) 4 ∧ box.psw.pm = false ∧
      userBox.Readable (userBox.reg 0) 4 ∧ userBox.psw.pm = true := by decide

theorem witness_ControlRegistersMove : CReg.isp ≠ .pc ∧ (7 : Word) = box.reg 5 ∧ box.product.hasFpu = true := by
  decide

theorem witness_AccumulatorProductsAndParts :
    let s := (box.setReg 6 0x80007FFF).setReg 7 0x7FFF8000
    (-0x8000 * 0x7FFF : Int) = (s.reg 6).toInt / 2 ^ 16 * ((s.reg 7).toInt / 2 ^ 16) ∧
      (-0x8000 * 0x7FFF : Int) = ((s.reg 6).setWidth 16).toInt * ((s.reg 7).setWidth 16).toInt := by decide

/-- A sum inside the limits, at the upper limit, beyond it and below the lower one. -/
theorem witness_RacwRoundsAndSaturates :
    let x (a : BitVec 64) : Int := (a <<< ((0 : BitVec 1).toNat + 1)).toInt + 2 ^ 31
    (x 0 ≤ 0x7FFF * 2 ^ 32 ∧ -0x8000 * 2 ^ 32 ≤ x 0) ∧ x 0x00003FFF40000000 ≤ 0x7FFF * 2 ^ 32 ∧
      0x7FFF * 2 ^ 32 < x 0x00003FFF40000001 ∧ x 0xFFFF000000000000 < -0x8000 * 2 ^ 32 := by decide

end Sys2Proof.Tests
end

section
/-! What a load reads after stores, and the state that exception entry leaves (R82, R607). -/

namespace Sys2Proof.Machine

/-! ### Reading back what was stored -/

theorem add_ofNat_inj {a : Word} {j k : Nat} (hj : j < 2 ^ 32) (hk : k < 2 ^ 32)
    (h : a + BitVec.ofNat 32 j = a + BitVec.ofNat 32 k) : j = k := by
  have hjk := congrArg BitVec.toNat (add_left_cancel h)
  rwa [BitVec.toNat_ofNat, BitVec.toNat_ofNat, Nat.mod_eq_of_lt hj, Nat.mod_eq_of_lt hk] at hjk

theorem add_ofNat_succ (a : Word) (k : Nat) : a + BitVec.ofNat 32 (k + 1) = a + 1 + BitVec.ofNat 32 k := by
  rw [BitVec.ofNat_add, BitVec.add_assoc, BitVec.add_comm (BitVec.ofNat 32 k)]
  rfl

theorem add_ofNat_zero (a : Word) : a + BitVec.ofNat 32 0 = a := BitVec.add_zero a

/-- The k-th byte stored is read at the k-th address. -/
theorem State.byteAt_putBytes_get (s : State) (a : Word) (l : List Byte) (hs : Memory.wf s.mem = true)
    (hl : l.length < 2 ^ 32) (k : Nat) (hk : k < l.length) :
    (s.putBytes a l).byteAt (a + BitVec.ofNat 32 k) = l[k] := by
  induction l generalizing s a k with
  | nil => cases hk
  | cons b r ih =>
    simp only [List.length_cons] at hl hk
    cases k with
    | zero =>
      have hne : ∀ j < r.length, a ≠ a + 1 + BitVec.ofNat 32 j := fun j hj h => by
        rw [← add_ofNat_succ] at h
        exact absurd (add_ofNat_inj (by decide) (by omega) ((add_ofNat_zero a).trans h)) (by omega)
      rw [add_ofNat_zero, State.putBytes, State.byteAt_putBytes_ne _ _ _ _ hne]
      exact s.byteAt_putByte_same a b hs
    | succ k =>
      rw [add_ofNat_succ]
      exact ih (s.putByte a b) (a + 1) (s.putByte_wf a b hs) (by omega) k (by omega)

/-- A load depends only on the endian and on its own bytes. -/
theorem State.peek_congr {s t : State} {a : Word} {sz : Size} (hp : t.product = s.product)
    (hb : ∀ k < sz.bytes, t.byteAt (a + BitVec.ofNat 32 k) = s.byteAt (a + BitVec.ofNat 32 k)) :
    t.peek a sz = s.peek a sz := by
  have h0 : t.byteAt a = s.byteAt a := by simpa using hb 0 (by cases sz <;> decide)
  cases sz with
  | b => simp only [State.peek, h0]
  | w =>
    have h1 : t.byteAt (a + 1) = s.byteAt (a + 1) := hb 1 (by decide)
    simp only [State.peek, hp, h0, h1]
  | l =>
    have h1 : t.byteAt (a + 1) = s.byteAt (a + 1) := hb 1 (by decide)
    have h2 : t.byteAt (a + 2) = s.byteAt (a + 2) := hb 2 (by decide)
    have h3 : t.byteAt (a + 3) = s.byteAt (a + 3) := hb 3 (by decide)
    simp only [State.peek, hp, h0, h1, h2, h3]

theorem append_low_bytes (v : Word) : v.extractLsb' 8 8 ++ v.extractLsb' 0 8 = v.extractLsb' 0 16 := by
  rw [BitVec.extractLsb'_append_extractLsb'_eq_extractLsb' (by rfl)]

theorem append_bytes (v : Word) :
    v.extractLsb' 24 8 ++ v.extractLsb' 16 8 ++ v.extractLsb' 8 8 ++ v.extractLsb' 0 8 = v := by
  rw [BitVec.extractLsb'_append_extractLsb'_eq_extractLsb' (by rfl),
    BitVec.extractLsb'_append_extractLsb'_eq_extractLsb' (by rfl),
    BitVec.extractLsb'_append_extractLsb'_eq_extractLsb' (by rfl)]
  simp

/-- A load where a store has just been reads the low bytes stored, zero-extended. -/
theorem State.peek_poke_same (s : State) (a : Word) (sz : Size) (v : Word) (hs : Memory.wf s.mem = true) :
    (s.poke a sz v).peek a sz = sz.zeroExtend v := by
  have hget (k : Nat) (hk : k < sz.bytes) :
      (s.poke a sz v).byteAt (a + BitVec.ofNat 32 k) =
        (valueBytes s.product.bigEndian sz v)[k]'(by simpa using hk) :=
    s.byteAt_putBytes_get a _ hs (by cases sz <;> simp [Size.bytes]) k _
  have h0 := hget 0 (by cases sz <;> decide)
  rw [add_ofNat_zero] at h0
  cases sz with
  | b => cases hb : s.product.bigEndian <;> simp [State.peek, h0, valueBytes, hb, Size.zeroExtend]
  | w =>
    have h1 : (s.poke a .w v).byteAt (a + 1#32) = _ := hget 1 (by decide)
    cases hb : s.product.bigEndian <;>
      simp [State.peek, h0, h1, valueBytes, hb, Size.zeroExtend, append_low_bytes]
  | l =>
    have h1 : (s.poke a .l v).byteAt (a + 1#32) = _ := hget 1 (by decide)
    have h2 : (s.poke a .l v).byteAt (a + 2#32) = _ := hget 2 (by decide)
    have h3 : (s.poke a .l v).byteAt (a + 3#32) = _ := hget 3 (by decide)
    cases hb : s.product.bigEndian <;>
      simp [State.peek, h0, h1, h2, h3, valueBytes, hb, Size.zeroExtend, append_bytes]

/-! ### The state exception entry leaves -/

section Entered

variable (s : State) (e : Exc) (pc : Word)

@[simp] theorem State.entered_psw : (s.entered e pc).psw =
    { s.psw with i := false, u := false, pm := false, ipl := s.entryIpl e } := by
  simp [State.entered, Psw.entered]

@[simp] theorem State.entered_isp : (s.entered e pc).isp = s.isp - 8 := rfl
@[simp] theorem State.entered_rmpa : (s.entered e pc).rmpa = s.rmpa.suspend pc := rfl
@[simp] theorem State.entered_waiting : (s.entered e pc).waiting = false := rfl
@[simp] theorem State.entered_regs : (s.entered e pc).regs = s.regs := by simp [State.entered]
@[simp] theorem State.entered_usp : (s.entered e pc).usp = s.usp := by simp [State.entered]
@[simp] theorem State.entered_intb : (s.entered e pc).intb = s.intb := by simp [State.entered]
@[simp] theorem State.entered_bpc : (s.entered e pc).bpc = s.bpc := by simp [State.entered]
@[simp] theorem State.entered_bpsw : (s.entered e pc).bpsw = s.bpsw := by simp [State.entered]
@[simp] theorem State.entered_fintv : (s.entered e pc).fintv = s.fintv := by simp [State.entered]
@[simp] theorem State.entered_fpsw : (s.entered e pc).fpsw = s.fpsw := by simp [State.entered]
@[simp] theorem State.entered_acc : (s.entered e pc).acc = s.acc := by simp [State.entered]
@[simp] theorem State.entered_nmiPending : (s.entered e pc).nmiPending = s.nmiPending := by simp [State.entered]
@[simp] theorem State.entered_product : (s.entered e pc).product = s.product := by simp [State.entered]
@[simp] theorem State.entered_inputs : (s.entered e pc).inputs = s.inputs := by simp [State.entered]
@[simp] theorem State.entered_ack : (s.entered e pc).ack = s.ack := by simp [State.entered]

theorem State.entered_mem_wf (h : Memory.wf s.mem = true) : Memory.wf (s.entered e pc).mem = true :=
  State.poke_wf _ _ _ _ (State.poke_wf _ _ _ _ h)

theorem State.entered_byteAt (a : Word) : (s.entered e pc).byteAt a =
    (((s.withPsw s.psw.entered).poke (s.isp - 4) .l s.psw.toWord).poke (s.isp - 8) .l pc).byteAt a := rfl

theorem sub_four_add (a : Word) (k : Nat) : a - 4 + BitVec.ofNat 32 k = a - 8 + BitVec.ofNat 32 (k + 4) := by
  rw [BitVec.ofNat_add]
  bv_omega

/-- Entry writes the eight bytes of its frame and no others. -/
theorem State.entered_sameMemoryBut : SameMemoryBut (s.isp - 8) 8 s (s.entered e pc) := by
  intro b hb
  rw [State.entered_byteAt, State.byteAt_poke_ne, State.byteAt_poke_ne]
  · rfl
  · intro k hk
    rw [sub_four_add]
    exact hb (k + 4) (by simp only [Size.bytes] at hk; omega)
  · intro k hk
    exact hb k (by simp only [Size.bytes] at hk; omega)

theorem State.entered_savedPc (h : Memory.wf s.mem = true) : (s.entered e pc).peek (s.isp - 8) .l = pc := by
  rw [State.peek_congr (s := ((s.withPsw s.psw.entered).poke (s.isp - 4) .l s.psw.toWord).poke (s.isp - 8) .l pc)
    (by simp) fun k _ => s.entered_byteAt e pc _]
  exact State.peek_poke_same _ _ _ _ (State.poke_wf _ _ _ _ h)

theorem State.entered_savedPsw (h : Memory.wf s.mem = true) :
    (s.entered e pc).peek (s.isp - 4) .l = s.psw.toWord := by
  rw [State.peek_congr (s := (s.withPsw s.psw.entered).poke (s.isp - 4) .l s.psw.toWord) (by simp) fun k hk => ?_]
  · exact State.peek_poke_same _ _ _ _ h
  · rw [State.entered_byteAt, State.byteAt_poke_ne]
    intro j hj heq
    rw [sub_four_add] at heq
    simp only [Size.bytes] at hk hj
    have := add_ofNat_inj (by omega) (by omega) heq
    omega

/-- Everything R607 says of the entry sequence. -/
theorem State.entered_spec (h : Memory.wf s.mem = true) :
    Entered (s.vectorAddress e) (s.entryIpl e) pc s (s.entered e pc) where
  psw := s.entered_psw e pc
  isp := rfl
  rmpa := rfl
  savedPsw := s.entered_savedPsw e pc h
  savedPc := s.entered_savedPc e pc h
  pc := by
    rw [State.peek_congr (s := ((s.withPsw s.psw.entered).poke (s.isp - 4) .l s.psw.toWord).poke (s.isp - 8) .l pc)
      (by simp) fun k _ => s.entered_byteAt e pc _]
    rfl
  memory := s.entered_sameMemoryBut e pc
  waiting := rfl
  regs := s.entered_regs e pc
  usp := s.entered_usp e pc
  intb := s.entered_intb e pc
  bpc := s.entered_bpc e pc
  bpsw := s.entered_bpsw e pc
  fintv := s.entered_fintv e pc
  fpsw := s.entered_fpsw e pc
  acc := s.entered_acc e pc
  nmiPending := s.entered_nmiPending e pc
  product := s.entered_product e pc
  inputs := s.entered_inputs e pc
  ack := s.entered_ack e pc

/-- Entry reaches the state of R607 where its three accesses do not fault, and is stuck where one does. -/
theorem State.enter_entersAt (h : Memory.wf s.mem = true) :
    EntersAt (s.enter e pc) (s.vectorAddress e) (s.entryIpl e) pc s := by
  have hcan : s.CanEnter (s.vectorAddress e) ↔
      ¬((s.withPsw s.psw.entered).faultAt (s.isp - 4) 4 .write ||
        (s.withPsw s.psw.entered).faultAt (s.isp - 8) 4 .write ||
        (s.withPsw s.psw.entered).faultAt (s.vectorAddress e) 4 .read) = true := by
    simp only [State.faultAt, State.withPsw_product, State.withPsw_psw, Psw.entered, Bool.not_eq_true,
      Bool.or_eq_false_iff]
    exact ⟨fun ⟨h1, h2, h3⟩ => ⟨⟨h1, h2⟩, h3⟩, fun ⟨⟨h1, h2⟩, h3⟩ => ⟨h1, h2, h3⟩⟩
  constructor
  · intro hc
    exact ⟨s.entered e pc, if_neg (hcan.1 hc), s.entered_spec e pc h⟩
  · intro hc
    exact if_pos (not_not.1 (mt hcan.2 hc))

end Entered

end Sys2Proof.Machine
end

section
/-! What an instruction that is no system instruction can do to the machine: it completes and keeps the processor
mode, or it is cancelled and takes an exception. Stated once per shared operation, then for `exec`. -/

namespace Sys2Proof.Machine

/-! ### What an ordinary instruction keeps -/

/-- The PSW fields that no arithmetic changes are the same (R33, R34). -/
structure Psw.SameMode (p q : Psw) : Prop where
  i : q.i = p.i
  u : q.u = p.u
  pm : q.pm = p.pm
  ipl : q.ipl = p.ipl

theorem Psw.SameMode.refl (p : Psw) : p.SameMode p := ⟨rfl, rfl, rfl, rfl⟩

theorem Psw.SameMode.setOrder (p : Psw) (r : FpOrder) : p.SameMode (p.setOrder r) := by
  cases r <;> exact ⟨rfl, rfl, rfl, rfl⟩

/-- What an instruction of user mode may leave behind: mode, priority, the unselected stack pointer and the registers
of exception handling are those of before, and memory is in canonical form if it was. -/
structure KeepsMode (s t : State) : Prop where
  mode : s.psw.SameMode t.psw
  otherSp : t.otherSp = s.otherSp
  intb : t.intb = s.intb
  bpc : t.bpc = s.bpc
  bpsw : t.bpsw = s.bpsw
  fintv : t.fintv = s.fintv
  product : t.product = s.product
  memory : Memory.wf s.mem = true → Memory.wf t.mem = true

/-- The unselected stack pointer in other states with the same PSW.U. -/
theorem State.otherSp_congr {s t : State} (hu : t.psw.u = s.psw.u) (hisp : t.isp = s.isp) (husp : t.usp = s.usp) :
    t.otherSp = s.otherSp := by simp only [State.otherSp, hu, hisp, husp]

theorem State.otherSp_of_user {s : State} (hu : s.psw.u = true) : s.otherSp = s.isp := by simp [State.otherSp, hu]

@[simp] theorem State.otherSp_setSp (s : State) (v : Word) : (s.setSp v).otherSp = s.otherSp := by
  cases h : s.psw.u <;> simp [State.otherSp, h]

@[simp] theorem State.otherSp_setReg (s : State) (r : Reg) (v : Word) : (s.setReg r v).otherSp = s.otherSp := by
  unfold State.setReg
  split
  · exact s.otherSp_setSp v
  · rfl

@[simp] theorem State.otherSp_poke (s : State) (a : Word) (sz : Size) (v : Word) :
    (s.poke a sz v).otherSp = s.otherSp := State.otherSp_congr (by simp) (by simp) (by simp)

namespace KeepsMode

variable {s t : State}

theorem refl (s : State) : KeepsMode s s := ⟨.refl _, rfl, rfl, rfl, rfl, rfl, rfl, id⟩

theorem goto (h : KeepsMode s t) (a : Word) : KeepsMode s (t.goto a) :=
  ⟨h.mode, h.otherSp, h.intb, h.bpc, h.bpsw, h.fintv, h.product, h.memory⟩

theorem advance (h : KeepsMode s t) (n : Nat) : KeepsMode s (t.advance n) := h.goto _

theorem withAcc (h : KeepsMode s t) (v : BitVec 64) : KeepsMode s { t with acc := v } :=
  ⟨h.mode, h.otherSp, h.intb, h.bpc, h.bpsw, h.fintv, h.product, h.memory⟩

theorem withFpsw (h : KeepsMode s t) (f : Fpsw) : KeepsMode s { t with fpsw := f } :=
  ⟨h.mode, h.otherSp, h.intb, h.bpc, h.bpsw, h.fintv, h.product, h.memory⟩

theorem withFresh (h : KeepsMode s t) (k : Nat) : KeepsMode s { t with fresh := k } :=
  ⟨h.mode, h.otherSp, h.intb, h.bpc, h.bpsw, h.fintv, h.product, h.memory⟩

theorem clobberAcc (h : KeepsMode s t) : KeepsMode s t.clobberAcc :=
  (h.withAcc (Config.freeAcc t.fresh)).withFresh (t.fresh + 1)

theorem markRmpa (h : KeepsMode s t) (a : Option Word) : KeepsMode s (t.markRmpa a) :=
  ⟨h.mode, h.otherSp, h.intb, h.bpc, h.bpsw, h.fintv, h.product, h.memory⟩

/-- A PSW whose mode fields are those of before. -/
theorem withPsw (h : KeepsMode s t) (p : Psw) (hp : s.psw.SameMode p) : KeepsMode s (t.withPsw p) :=
  ⟨hp, (State.otherSp_congr (t := t.withPsw p) (hp.u.trans h.mode.u.symm) rfl rfl).trans h.otherSp, h.intb, h.bpc,
    h.bpsw, h.fintv, h.product, h.memory⟩

theorem setSp (h : KeepsMode s t) (v : Word) : KeepsMode s (t.setSp v) :=
  ⟨by simpa using h.mode, by simpa using h.otherSp, by simpa using h.intb, by simpa using h.bpc,
    by simpa using h.bpsw, by simpa using h.fintv, by simpa using h.product, by simpa using h.memory⟩

theorem setReg (h : KeepsMode s t) (r : Reg) (v : Word) : KeepsMode s (t.setReg r v) :=
  ⟨by simpa using h.mode, by simpa using h.otherSp, by simpa using h.intb, by simpa using h.bpc,
    by simpa using h.bpsw, by simpa using h.fintv, by simpa using h.product, by simpa using h.memory⟩

theorem clobberReg (h : KeepsMode s t) (r : Reg) : KeepsMode s (t.clobberReg r) :=
  (h.withFresh (t.fresh + 1)).setReg r (Config.freeWord t.fresh)

theorem poke (h : KeepsMode s t) (a : Word) (sz : Size) (v : Word) : KeepsMode s (t.poke a sz v) :=
  ⟨by simpa using h.mode, by simpa using h.otherSp, by simpa using h.intb, by simpa using h.bpc,
    by simpa using h.bpsw, by simpa using h.fintv, by simpa using h.product, fun hs => t.poke_wf a sz v (h.memory hs)⟩

theorem setPointers (h : KeepsMode s t) (r1 r2 r3 : Word) : KeepsMode s (t.setPointers r1 r2 r3) :=
  ((h.setReg 1 r1).setReg 2 r2).setReg 3 r3

theorem setTriple (h : KeepsMode s t) (hi mid lo : Word) : KeepsMode s (t.setTriple hi mid lo) :=
  ((h.setReg 6 hi).setReg 5 mid).setReg 4 lo

theorem endIteration (h : KeepsMode s t) (last : Bool) : KeepsMode s (t.endIteration last) := by
  unfold State.endIteration
  split
  · exact h.advance 2
  · exact h

theorem endAndClobber (h : KeepsMode s t) (last : Bool) : KeepsMode s (t.endAndClobber last) := by
  unfold State.endAndClobber
  split
  · exact ((h.clobberReg 1).clobberReg 2).advance 2
  · exact h

/-- Registers written one after the other, as POPM and RTSD do. -/
theorem setRegs (h : KeepsMode s t) (rs : List Reg) (vs : List Word) : KeepsMode s (t.setRegs rs vs) := by
  unfold State.setRegs
  induction rs.zip vs generalizing t with
  | nil => exact h
  | cons p ps ih => exact ih (h.setReg p.1 p.2)

/-- Longwords written one after the other, as PUSHM does. -/
theorem pokes (h : KeepsMode s t) (ws : List (Word × Word)) :
    KeepsMode s (ws.foldl (fun u w => u.poke w.1 .l w.2) t) := by
  induction ws generalizing t with
  | nil => exact h
  | cons w ws ih => exact ih (h.poke w.1 .l w.2)

theorem setRmpaSum (h : KeepsMode s t) (v : BitVec 80) : KeepsMode s (t.setRmpaSum v) :=
  ((h.setReg 4 _).setReg 5 _).setReg 6 _

theorem rmpaEnd (h : KeepsMode s t) (acc : BitVec 80) : KeepsMode s (t.rmpaEnd acc) := by
  refine (((((h.withPsw _ ?_).clobberReg 1).clobberReg 2).clobberAcc).markRmpa none).advance 2
  exact ⟨h.mode.i, h.mode.u, h.mode.pm, h.mode.ipl⟩

theorem rmpaIterated (s : State) (sz : Size) : KeepsMode s (s.rmpaIterated sz) := by
  unfold State.rmpaIterated
  dsimp only
  split
  · exact (((refl s).setPointers _ _ _).setRmpaSum _).rmpaEnd _
  · exact (((refl s).setPointers _ _ _).setRmpaSum _).markRmpa _

end KeepsMode

/-! ### Cancelled instructions -/

/-- What a cancelled instruction may have written: only FPSW, ACC and the counter of free values (R325, R338). -/
def Cancelled (s u : State) : Prop := ∃ f a k, u = { s with fpsw := f, acc := a, fresh := k }

theorem Cancelled.refl (s : State) : Cancelled s s := ⟨s.fpsw, s.acc, s.fresh, rfl⟩

theorem Cancelled.clobberAcc (s : State) : Cancelled s s.clobberAcc := ⟨s.fpsw, _, _, rfl⟩

theorem Cancelled.withFpsw {s u : State} (h : Cancelled s u) (f : Fpsw) : Cancelled s { u with fpsw := f } := by
  obtain ⟨_, a, k, rfl⟩ := h
  exact ⟨f, a, k, rfl⟩

theorem Cancelled.keepsMode {s u : State} (h : Cancelled s u) : KeepsMode s u := by
  obtain ⟨f, a, k, rfl⟩ := h
  exact (((KeepsMode.refl s).withFpsw f).withAcc a).withFresh k

/-- The state after an exception that an instruction raises: IPL is kept (R607). -/
def Trapped (s t : State) : Prop := ∃ u e pc, Cancelled s u ∧ u.entryIpl e = u.psw.ipl ∧ t = u.entered e pc

/-- The outcome, where it is a next state, satisfies P or is an exception entry from `s`. -/
def RunsTo (s : State) (P : State → Prop) (o : Out) : Prop := ∀ t, o = .next t → P t ∨ Trapped s t

namespace RunsTo

variable {s u : State} {P Q : State → Prop}

theorem next {t : State} (h : P t) : RunsTo s P (.next t) := fun _ ht => by
  cases ht
  exact .inl h

theorem refused {r : Refusal} : RunsTo s P (.refused r) := fun _ ht => nomatch ht

theorem mono {o : Out} (h : RunsTo s P o) (hPQ : ∀ t, P t → Q t) : RunsTo s Q o :=
  fun t ht => (h t ht).imp_left (hPQ t)

theorem enter {e : Exc} {pc : Word} (hu : Cancelled s u) (he : u.entryIpl e = u.psw.ipl) :
    RunsTo s P (u.enter e pc) := fun _ ht => .inr ⟨u, e, pc, hu, he, State.enter_next ht⟩

theorem raise {e : Exc} (he : s.entryIpl e = s.psw.ipl) : RunsTo s P (s.raise e) := enter (.refl s) he

theorem ite {c : Prop} [Decidable c] {o o' : Out} (h : RunsTo s P o) (h' : RunsTo s P o') :
    RunsTo s P (if c then o else o') := by
  split <;> assumption

theorem privileged {k : Out} (h : s.psw.pm = false → RunsTo s P k) : RunsTo s P (s.privileged k) := by
  unfold State.privileged
  split
  · exact raise rfl
  · exact h (by simp_all)

theorem withFpu {k : Out} (h : RunsTo s P k) : RunsTo s P (s.withFpu k) := ite h (raise rfl)

theorem load {a : Word} {sz : Size} {k : Word → Out} (h : ∀ v, RunsTo s P (k v)) : RunsTo s P (s.load a sz k) :=
  ite (raise rfl) (h _)

theorem store {a : Word} {sz : Size} {v : Word} {k : State → Out} (h : RunsTo s P (k (s.poke a sz v))) :
    RunsTo s P (s.store a sz v k) := ite (raise rfl) h

theorem loadAll {as : List Word} {k : List Word → Out} (h : ∀ vs, RunsTo s P (k vs)) : RunsTo s P (s.loadAll as k) :=
  ite (raise rfl) (h _)

theorem storeAll {ws : List (Word × Word)} {k : State → Out}
    (h : RunsTo s P (k (ws.foldl (fun t w => t.poke w.1 .l w.2) s))) : RunsTo s P (s.storeAll ws k) :=
  ite (raise rfl) h

theorem push {v : Word} {k : State → Out} (h : RunsTo s P (k ((s.poke (s.sp - 4) .l v).setSp (s.sp - 4)))) :
    RunsTo s P (s.push v k) := store h

theorem popWord {k : Word → State → Out} (h : ∀ v, RunsTo s P (k v (s.setSp (s.sp + 4)))) :
    RunsTo s P (s.popWord k) := load h

theorem withRm {src : RegOrMem} {k : Word → Out} (h : ∀ v, RunsTo s P (k v)) : RunsTo s P (s.withRm src k) := by
  cases src with
  | reg r => exact h _
  | mem base d => exact load h

theorem withL {src : RegOrMem} {k : Word → Out} (h : ∀ v, RunsTo s P (k v)) : RunsTo s P (s.withL src k) := by
  cases src with
  | reg r => exact h _
  | mem base d => exact load h

theorem withMx {mx : Memex} {rs : Reg} {d : Dsp} {k : Word → Out} (h : ∀ v, RunsTo s P (k v)) :
    RunsTo s P (s.withMx mx rs d k) := load fun _ => h _

theorem fpExecute {ev : Events} {k : State → Out} (hu : Cancelled s u)
    (h : RunsTo s P (k { u with fpsw := u.fpsw.record ev })) : RunsTo s P (u.fpExecute ev k) :=
  ite (enter (hu.withFpsw _) rfl) h

end RunsTo

/-! ### How an ordinary instruction ends -/

/-- The instruction completes and keeps the mode, or takes an exception. -/
abbrev Ordinary (s : State) (o : Out) : Prop := RunsTo s (KeepsMode s) o

namespace RunsTo

variable {s u : State}

theorem finish {rd : Reg} {r : Word × Psw} {n : Nat} (hu : KeepsMode s u) (hr : s.psw.SameMode r.2) :
    Ordinary s (u.finish rd r n) := .next (((hu.withPsw _ hr).setReg rd r.1).advance n)

theorem flagsOnly {p : Psw} {n : Nat} (hu : KeepsMode s u) (hp : s.psw.SameMode p) : Ordinary s (u.flagsOnly p n) :=
  .next ((hu.withPsw _ hp).advance n)

theorem assign {rd : Reg} {v : Word} {n : Nat} (hu : KeepsMode s u) : Ordinary s (u.assign rd v n) :=
  .next ((hu.setReg rd v).advance n)

theorem assignIf {c : Bool} {rd : Reg} {v : Word} {n : Nat} : Ordinary s (s.assignIf c rd v n) :=
  .ite (assign (.refl s)) (.next ((KeepsMode.refl s).advance n))

theorem assignAcc {v : BitVec 64} : Ordinary s (s.assignAcc v) := .next (((KeepsMode.refl s).withAcc v).advance 3)

theorem storeTo {a : Word} {sz : Size} {v : Word} {n : Nat} : Ordinary s (s.storeTo a sz v n) :=
  .store (.next (((KeepsMode.refl s).poke a sz v).advance n))

theorem finishDiv {rd : Reg} {q : Option Word} {n : Nat} : Ordinary s (s.finishDiv rd q n) := by
  cases q with
  | some v => exact finish (.refl s) ⟨rfl, rfl, rfl, rfl⟩
  | none =>
    have hpsw := (KeepsMode.refl s).withPsw { s.psw with o := true } ⟨rfl, rfl, rfl, rfl⟩
    exact .next ((hpsw.clobberReg rd).advance n)

theorem finishPair {rd : Reg} {p : BitVec 64} {n : Nat} : Ordinary s (s.finishPair rd p n) :=
  .next (((((KeepsMode.refl s).setReg rd _).setReg rd.next _).clobberAcc).advance n)

theorem finishMul {rd : Reg} {v : Word} {n : Nat} : Ordinary s (s.finishMul rd v n) :=
  .next ((((KeepsMode.refl s).setReg rd v).clobberAcc).advance n)

theorem fpFinish {rd : Reg} {r : Word × Events} {n : Nat} (hu : Cancelled s u) : Ordinary s (u.fpFinish rd r n) :=
  .fpExecute hu (finish (hu.withFpsw _).keepsMode
    ⟨hu.keepsMode.mode.i, hu.keepsMode.mode.u, hu.keepsMode.mode.pm, hu.keepsMode.mode.ipl⟩)

theorem fpFinishInt {rd : Reg} {r : Word × Events} {n : Nat} : Ordinary s (s.fpFinishInt rd r n) :=
  .fpExecute (.refl s) (finish ((KeepsMode.refl s).withFpsw _) ⟨rfl, rfl, rfl, rfl⟩)

theorem fpFinishCompare {r : FpOrder × Events} {n : Nat} : Ordinary s (s.fpFinishCompare r n) :=
  .fpExecute (.refl s) (flagsOnly ((KeepsMode.refl s).withFpsw _) (.setOrder _ _))

theorem branchIf {c : Bool} {d : Word} {n : Nat} : Ordinary s (s.branchIf c d n) := by
  refine .next ?_
  split
  · exact (KeepsMode.refl s).goto _
  · exact (KeepsMode.refl s).advance n

theorem goto {a : Word} : Ordinary s (.next (s.goto a)) := .next ((KeepsMode.refl s).goto a)

theorem call {target : Word} {n : Nat} : Ordinary s (s.call target n) :=
  .push (.next ((((KeepsMode.refl s).poke _ _ _).setSp _).goto target))

theorem pushSized {sz : Size} {v : Word} {n : Nat} : Ordinary s (s.pushSized sz v n) :=
  .push (.next (((((KeepsMode.refl s).poke _ _ _).setSp _).withFresh _).advance n))

theorem modifyByte {a : Word} {f : Word → Word} {n : Nat} : Ordinary s (s.modifyByte a f n) := .load fun _ => storeTo

theorem testByte {a : Word} {bit n : Nat} : Ordinary s (s.testByte a bit n) :=
  .load fun _ => flagsOnly (.refl s) ⟨rfl, rfl, rfl, rfl⟩

theorem exchange {a : Word} {sz : Size} {ext : Word → Word} {rd : Reg} {n : Nat} :
    Ordinary s (s.exchange a sz ext rd n) := .load fun _ => .store (assign ((KeepsMode.refl s).poke _ _ _))

theorem moveByte {d : Word} {k : Word → State → Out} (h : ∀ v t, KeepsMode s t → Ordinary s (k v t)) :
    Ordinary s (s.moveByte d k) :=
  .load fun v => .store (h v _ (((KeepsMode.refl s).poke _ _ _).setPointers _ _ _))

theorem searchElement {sz : Size} {stops : Word → Bool} : Ordinary s (s.searchElement sz stops) :=
  .load fun v =>
    have hpsw := (KeepsMode.refl s).withPsw (s.psw.setCompare v (s.reg 2)) ⟨rfl, rfl, rfl, rfl⟩
    .next ((hpsw.setPointers _ _ _).endIteration _)

theorem unlessDone {k : Out} (h : Ordinary s k) : Ordinary s (s.unlessDone k) :=
  .ite (.next ((KeepsMode.refl s).advance 2)) h

end RunsTo

end Sys2Proof.Machine
end

section
namespace Sys2Proof

/-- The instructions that write mode, priority or the registers of exception handling, in supervisor mode at least. -/
def Instr.isSystem : Instr → Bool
  | .popc _ | .setpsw _ | .clrpsw _ | .mvtcImm _ _ | .mvtcR _ _ | .mvtipl _ | .rte | .rtfi | .wait => true
  | _ => false

end Sys2Proof

namespace Sys2Proof.Machine

/-! ### exec -/

theorem ordinary_rmpa (sz : Size) (s : State) : Ordinary s (execRmpa sz s) := by
  intro t ht
  rcases execRmpa_next ht with ⟨-, rfl⟩ | ⟨-, -, rfl | rfl⟩
  · exact .inl (((KeepsMode.refl s).markRmpa none).advance 2)
  · exact .inl (.rmpaIterated s sz)
  · exact .inr ⟨s, .access, s.pc, .refl s, rfl, rfl⟩

theorem ordinary_satr (s : State) : Ordinary s (execSatr s) := by
  refine .ite (.next (.advance ?_ 2)) (.next (.advance (.refl s) 2))
  split
  · exact (KeepsMode.refl s).setTriple _ _ _
  · exact (KeepsMode.refl s).setTriple _ _ _

theorem ordinary_scmpu (s : State) : Ordinary s (execScmpu s) :=
  .unlessDone (.load fun a => .load fun b =>
    have hpsw := (KeepsMode.refl s).withPsw (s.psw.setCompare a b) ⟨rfl, rfl, rfl, rfl⟩
    .next ((hpsw.setPointers _ _ _).endAndClobber _))

/-- Every instruction but the system instructions keeps the mode, or is cancelled by an exception. -/
theorem exec_ordinary (i : Instr) (s : State) (h : i.isSystem = false) : Ordinary s (exec i s) := by
  cases i with dsimp only [exec]
  -- a result in a register, with flags
  | absR | absRR | adcImm | adcRR | addUimm4 | addImm3 | addRRR | andUimm4 | andImm | andRRR | negR | negRR | notR
  | notRR | orUimm4 | orImm | orRRR | rolc | rorc | rotlImm | rotlRR | rotrImm | rotrRR | sbbRR | sharImm | sharRR
  | sharImm3 | shllImm | shllRR | shllImm3 | shlrImm | shlrRR | shlrImm3 | subUimm4 | subRRR | xorImm =>
    exact .finish (.refl s) ⟨rfl, rfl, rfl, rfl⟩
  | addRm | andRm | orRm | subRm | xorRm => exact .withRm fun _ => .finish (.refl s) ⟨rfl, rfl, rfl, rfl⟩
  | addMx | andMx | orMx | subMx | xorMx => exact .withMx fun _ => .finish (.refl s) ⟨rfl, rfl, rfl, rfl⟩
  | adcMem | sbbMem => exact .load fun _ => .finish (.refl s) ⟨rfl, rfl, rfl, rfl⟩
  -- flags only
  | cmpUimm4 | cmpUimm8 | cmpImm | tstImm | btstImm | btstRR => exact .flagsOnly (.refl s) ⟨rfl, rfl, rfl, rfl⟩
  | cmpRm | tstRm => exact .withRm fun _ => .flagsOnly (.refl s) ⟨rfl, rfl, rfl, rfl⟩
  | cmpMx | tstMx => exact .withMx fun _ => .flagsOnly (.refl s) ⟨rfl, rfl, rfl, rfl⟩
  | btstImmMem | btstRMem => exact .testByte
  -- quotients and products
  | divImm | divuImm => exact .finishDiv
  | divRm | divuRm => exact .withRm fun _ => .finishDiv
  | divMx | divuMx => exact .withMx fun _ => .finishDiv
  | emulImm | emuluImm => exact .finishPair
  | emulRm | emuluRm => exact .withRm fun _ => .finishPair
  | emulMx | emuluMx => exact .withMx fun _ => .finishPair
  | mulUimm4 | mulImm | mulRRR => exact .finishMul
  | mulRm => exact .withRm fun _ => .finishMul
  | mulMx => exact .withMx fun _ => .finishMul
  -- a register alone
  | maxImm | minImm | sat | stnz | stz => exact .assignIf
  | maxRm | minRm => exact .withRm fun _ => .assignIf
  | maxMx | minMx => exact .withMx fun _ => .assignIf
  | movUimm4 | movUimm8 | movImm | movRR | revl | revw | bclrImm | bclrRR | bsetImm | bsetRR | bmcndR | bnotImm | bnotRR
  | mvfc | mvfachi | mvfacmi => exact .assign (.refl s)
  | movLoadD5 | movLoad | movLoadIdx | movuLoadD5 | movuLoadIdx => exact .load fun _ => .assign (.refl s)
  | movLoadAuto | movuLoadAuto => exact .load fun _ => .assign ((KeepsMode.refl s).setReg _ _)
  | movuRm sz src rd =>
    cases src with
    | reg r => exact .assign (.refl s)
    | mem r d => exact .load fun _ => .assign (.refl s)
  | satr => exact ordinary_satr s
  | nop => exact .next ((KeepsMode.refl s).advance 1)
  | machi | maclo | mulhi | mullo | mvtachi | mvtaclo | racw => exact .assignAcc
  -- floating point
  | faddImm | fdivImm | fsubImm => exact .withFpu (.fpFinish (.refl s))
  | faddRm | fdivRm | fsubRm => exact .withFpu (.withL fun _ => .fpFinish (.refl s))
  | fmulImm => exact .withFpu (.fpFinish (.clobberAcc s))
  | fmulRm => exact .withFpu (.withL fun _ => .fpFinish (.clobberAcc s))
  | fcmpImm => exact .withFpu .fpFinishCompare
  | fcmpRm => exact .withFpu (.withL fun _ => .fpFinishCompare)
  | ftoiRm | roundRm => exact .withFpu (.withL fun _ => .fpFinishInt)
  | itofRm => exact .withFpu (.withRm fun _ => .fpFinish (.refl s))
  | itofMx => exact .withFpu (.withMx fun _ => .fpFinish (.refl s))
  -- stores and the stack
  | movStoreD5 | movImmD5 | movImmMem | movStore | movStoreIdx => exact .storeTo
  | movMemMem => exact .load fun _ => .storeTo
  | movStoreAuto => exact .store (.assign ((KeepsMode.refl s).poke _ _ _))
  | sccnd cd sz dst =>
    cases dst with
    | reg r => exact .assign (.refl s)
    | mem r d => exact .storeTo
  | xchgRm src rd =>
    cases src with
    | reg r => exact .assign ((KeepsMode.refl s).setReg _ _)
    | mem r d => exact .exchange
  | xchgMx => exact .exchange
  | bclrImmMem | bclrRMem | bsetImmMem | bsetRMem | bmcndMem | bnotImmMem | bnotRMem => exact .modifyByte
  | pop => exact .popWord fun _ => .assign ((KeepsMode.refl s).setSp _)
  | popm => exact .ite (.loadAll fun _ => .next ((((KeepsMode.refl s).setSp _).setRegs _ _).advance 2)) .refused
  | pushR => exact .pushSized
  | pushMem => exact .load fun _ => .pushSized
  | pushc => exact .push (.next ((((KeepsMode.refl s).poke _ _ _).setSp _).advance 2))
  | pushm => exact .ite (.storeAll (.next ((((KeepsMode.refl s).pokes _).setSp _).advance 2))) .refused
  -- branches
  | bcndS | bcndB | bcndW => exact .branchIf
  | braS | braB | braW | braA | braL | jmp => exact .goto
  | bsrW | bsrA | bsrL | jsr => exact .call
  | rts => exact .popWord fun _ => .next (((KeepsMode.refl s).setSp _).goto _)
  | rtsd => exact .load fun _ => .next (((KeepsMode.refl s).setSp _).goto _)
  | rtsdRange =>
    exact .ite (.loadAll fun _ => .next ((((KeepsMode.refl s).setSp _).setRegs _ _).goto _)) .refused
  -- strings and RMPA
  | scmpu => exact ordinary_scmpu s
  | smovb | smovf => exact .unlessDone (.ite .refused (.moveByte fun _ _ h => .next (h.endIteration _)))
  | smovu => exact .unlessDone (.ite .refused (.moveByte fun _ _ h => .next (h.endAndClobber _)))
  | sstr => exact .unlessDone (.store (.next ((((KeepsMode.refl s).poke _ _ _).setPointers _ _ _).endIteration _)))
  | suntil | swhile => exact .unlessDone .searchElement
  | rmpa sz => exact ordinary_rmpa sz s
  -- traps
  | brk | int => exact .enter (.refl s) rfl
  -- system instructions
  | popc | setpsw | clrpsw | mvtcImm | mvtcR | mvtipl | rte | rtfi | wait => cases h

end Sys2Proof.Machine
end

section
/-! The PSW as it is written and restored, and what the system instructions do in either mode (R33 to R35, R541). -/

namespace Sys2Proof.Machine

/-! ### Fields of a written PSW -/

theorem maskLevel_fits (ipl3 : Bool) (l : BitVec 4) (h : ipl3 = true) : (maskLevel ipl3 l).toNat ≤ 7 := by
  simp only [maskLevel, h, if_true, BitVec.toNat_and]
  exact Nat.and_le_right

/-- A level keeps its value modulo 8 or 16, by the product's width (R32). -/
theorem maskLevel_toNat (ipl3 : Bool) (l : BitVec 4) :
    (maskLevel ipl3 l).toNat = l.toNat % (if ipl3 then 8 else 16) := by
  cases ipl3 with
  | false => exact (Nat.mod_eq_of_lt l.isLt).symm
  | true =>
    rw [maskLevel, if_pos rfl, BitVec.toNat_and]
    exact Nat.and_two_pow_sub_one_eq_mod l.toNat 3

theorem Psw.ofWord_fits (ipl3 : Bool) (v : Word) : (Psw.ofWord ipl3 v).Fits ipl3 := maskLevel_fits ipl3 _

theorem Psw.ofWord_ipl_toNat (ipl3 : Bool) (v : Word) :
    (Psw.ofWord ipl3 v).ipl.toNat = v.toNat / 2 ^ 24 % (if ipl3 then 8 else 16) := by
  have h := maskLevel_toNat ipl3 (v.extractLsb' 24 4)
  rw [BitVec.extractLsb'_toNat, Nat.shiftRight_eq_div_pow] at h
  rw [Psw.ofWord, h]
  cases ipl3 <;> simp only [Bool.false_eq_true, if_false, if_true] <;> omega

theorem Psw.restore_fits (ipl3 : Bool) (v : Word) : (Psw.restore ipl3 v).Fits ipl3 := Psw.ofWord_fits ipl3 v

theorem Psw.restore_user {ipl3 : Bool} {v : Word} (h : (Psw.restore ipl3 v).pm = true) :
    (Psw.restore ipl3 v).u = true := by
  simp only [Psw.restore] at h ⊢
  simp [h]

theorem Psw.write_user {ipl3 : Bool} {v : Word} {p : Psw} (h : p.pm = true) :
    p.write ipl3 v = { p with c := v.getLsbD 0, z := v.getLsbD 1, s := v.getLsbD 2, o := v.getLsbD 3 } := by
  simp [Psw.write, h, Psw.ofWord]

theorem Psw.write_supervisor {ipl3 : Bool} {v : Word} {p : Psw} (h : p.pm = false) :
    p.write ipl3 v = { Psw.ofWord ipl3 v with pm := false } := by simp [Psw.write, h]

theorem Psw.write_fits {ipl3 : Bool} {v : Word} {p : Psw} (hp : p.Fits ipl3) : (p.write ipl3 v).Fits ipl3 := by
  cases h : p.pm with
  | true => simpa only [Psw.write_user h] using hp
  | false => simpa only [Psw.write_supervisor h] using Psw.ofWord_fits ipl3 v

/-- A written PSW never changes PM, nor in user mode the other mode fields (R33). -/
theorem Psw.write_pm (ipl3 : Bool) (v : Word) (p : Psw) : (p.write ipl3 v).pm = p.pm := by
  cases h : p.pm with
  | true => simp [Psw.write_user h, h]
  | false => simp [Psw.write_supervisor h]

theorem Psw.SameMode.write_user {ipl3 : Bool} {v : Word} {p : Psw} (h : p.pm = true) : p.SameMode (p.write ipl3 v) := by
  rw [Psw.write_user h]
  exact ⟨rfl, rfl, rfl, rfl⟩

theorem Psw.SameMode.setBit {p : Psw} {b : PswBit} (h : b.restricted = false) (v : Bool) :
    p.SameMode (p.setBit b v) := by
  cases b with
  | c | z | s | o => exact ⟨rfl, rfl, rfl, rfl⟩
  | i | u => cases h

@[simp] theorem Psw.setBit_pm (p : Psw) (b : PswBit) (v : Bool) : (p.setBit b v).pm = p.pm := by cases b <;> rfl
@[simp] theorem Psw.setBit_ipl (p : Psw) (b : PswBit) (v : Bool) : (p.setBit b v).ipl = p.ipl := by cases b <;> rfl

/-! ### System instructions in user mode -/

/-- SETPSW and CLRPSW write the PSW alone: the named bit, but I and U not in user mode (R34). -/
theorem State.changeBit_eq (s : State) (b : PswBit) (v : Bool) :
    s.changeBit b v = s.withPsw (if s.psw.pm && b.restricted then s.psw else s.psw.setBit b v) := by
  unfold State.changeBit
  split <;> rfl

theorem KeepsMode.changeBit {s : State} (h : s.psw.pm = true) (b : PswBit) (v : Bool) :
    KeepsMode s (s.changeBit b v) := by
  rw [State.changeBit_eq, h, Bool.true_and]
  refine (KeepsMode.refl s).withPsw _ ?_
  split
  · exact .refl _
  · exact .setBit (Bool.eq_false_iff.2 ‹_›) v

/-- User mode writes only USP, FPSW and the flags; the rest of `ctrl_write` is ignored (R54, R541). -/
theorem KeepsMode.ctrlWrite {s t : State} (h : KeepsMode s t) (hpm : s.psw.pm = true) (hu : s.psw.u = true)
    (cr : CReg) (v : Word) : KeepsMode s (t.ctrlWrite cr v) := by
  have hpm' : t.psw.pm = true := h.mode.pm.trans hpm
  have hu' : t.psw.u = true := h.mode.u.trans hu
  cases cr with
  | psw =>
    have hw : t.psw.SameMode _ := Psw.SameMode.write_user (ipl3 := t.product.ipl3) (v := v) hpm'
    exact h.withPsw _ ⟨hw.i.trans h.mode.i, hw.u.trans h.mode.u, hw.pm.trans h.mode.pm, hw.ipl.trans h.mode.ipl⟩
  | pc => exact h
  | usp =>
    have hsp : t.setSp v = t.ctrlWrite .usp v := if_pos hu'
    exact hsp ▸ h.setSp v
  | fpsw =>
    unfold State.ctrlWrite
    dsimp only
    split
    · exact h.withFpsw _
    · exact h
  | bpsw | bpc | isp | fintv | intb =>
    simpa only [State.ctrlWrite, State.supervisorOnly, hpm', if_true] using h

theorem State.privileged_of_user {s : State} (h : s.psw.pm = true) (k : Out) :
    s.privileged k = s.raise .privileged := if_pos h

/-- In user mode, on the user stack, every instruction keeps the mode or is cancelled by an exception. -/
theorem exec_ordinary_of_user (i : Instr) {s : State} (hpm : s.psw.pm = true) (hu : s.psw.u = true) :
    Ordinary s (exec i s) := by
  have hpriv (k : Out) : Ordinary s (s.privileged k) := State.privileged_of_user hpm k ▸ .raise rfl
  cases hi : i.isSystem with
  | false => exact exec_ordinary i s hi
  | true =>
    cases i with
    | popc cr =>
      rw [exec_popc]
      exact .popWord fun v => .next ((((KeepsMode.refl s).setSp _).ctrlWrite hpm hu cr v).advance 2)
    | mvtcImm imm cr => exact .next (((KeepsMode.refl s).ctrlWrite hpm hu cr _).advance _)
    | mvtcR rs cr => exact .next (((KeepsMode.refl s).ctrlWrite hpm hu cr _).advance 3)
    | setpsw cb | clrpsw cb => exact .next ((KeepsMode.changeBit hpm cb _).advance 2)
    | mvtipl imm => exact .ite (hpriv _) (.raise rfl)
    | rte | rtfi | wait => exact hpriv _
    | _ => cases hi

/-! ### What an exception that an instruction raises leaves -/

/-- The supervisor's registers after an exception of an instruction: mode and stack as R607 says, IPL kept. -/
structure TrapFrame (s t : State) : Prop where
  psw : t.psw = { s.psw with i := false, u := false, pm := false }
  isp : t.isp = s.isp - 8
  usp : t.usp = s.usp
  regs : t.regs = s.regs
  intb : t.intb = s.intb
  fintv : t.fintv = s.fintv
  bpc : t.bpc = s.bpc
  bpsw : t.bpsw = s.bpsw
  product : t.product = s.product
  bytes : SameMemoryBut (s.isp - 8) 8 s t
  memory : Memory.wf s.mem = true → Memory.wf t.mem = true

theorem State.entered_trapFrame {s : State} {e : Exc} (pc : Word) (he : s.entryIpl e = s.psw.ipl) :
    TrapFrame s (s.entered e pc) where
  psw := by rw [State.entered_psw, he]
  isp := s.entered_isp e pc
  usp := s.entered_usp e pc
  regs := s.entered_regs e pc
  intb := s.entered_intb e pc
  fintv := s.entered_fintv e pc
  bpc := s.entered_bpc e pc
  bpsw := s.entered_bpsw e pc
  product := s.entered_product e pc
  bytes := s.entered_sameMemoryBut e pc
  memory := s.entered_mem_wf e pc

theorem Trapped.frame {s t : State} (h : Trapped s t) : TrapFrame s t := by
  obtain ⟨_, e, pc, ⟨f, a, k, rfl⟩, he, rfl⟩ := h
  have hf := State.entered_trapFrame pc he
  exact ⟨hf.psw, hf.isp, hf.usp, hf.regs, hf.intb, hf.fintv, hf.bpc, hf.bpsw, hf.product, hf.bytes, hf.memory⟩

/-- Settles O20. Both ways an instruction of user mode can end keep the supervisor's registers: it keeps the mode, or
it is the entry of R607. -/
theorem userModeCannotReachSupervisorState : Obligations.UserModeCannotReachSupervisorState := by
  intro s t i hpm hu ht
  rcases exec_ordinary_of_user i hpm hu t ht with hk | hk
  · have hpm' : t.psw.pm = true := hk.mode.pm.trans hpm
    have hu' : t.psw.u = true := hk.mode.u.trans hu
    have hisp : t.isp = s.isp := by
      rw [← State.otherSp_of_user hu', ← State.otherSp_of_user hu]
      exact hk.otherSp
    exact ⟨hk.intb, hk.fintv, hk.bpc, hk.bpsw, hk.mode.ipl, fun _ => ⟨hk.mode.i, hu', hisp⟩,
      fun h => nomatch hpm'.symm.trans h⟩
  · have hf := hk.frame
    refine ⟨hf.intb, hf.fintv, hf.bpc, hf.bpsw, ?_, fun h => ?_, fun _ =>
      ⟨?_, ?_, hf.isp, hf.usp, hf.regs, ?_, ?_, ?_, ?_, hf.bytes⟩⟩
    case refine_2 =>
      rw [hf.psw] at h
      cases h
    all_goals rw [hf.psw]

end Sys2Proof.Machine
end

section
/-! Legal states are kept by every step (O6), and only RTE and RTFI enter user mode (O19). -/

namespace Sys2Proof.Machine

/-! ### What every instruction but the returns keeps -/

/-- PM, and all that makes a state legal. -/
structure KeepsLegal (s t : State) : Prop where
  product : t.product = s.product
  memory : Memory.wf s.mem = true → Memory.wf t.mem = true
  pm : t.psw.pm = s.psw.pm
  psw : s.psw.Fits s.product.ipl3 → t.psw.Fits s.product.ipl3
  bpsw : s.bpsw.Fits s.product.ipl3 → t.bpsw.Fits s.product.ipl3
  userStack : s.psw.pm = true → s.psw.u = true → t.psw.u = true

theorem KeepsLegal.legal {s t : State} (h : KeepsLegal s t) (hs : s.Legal) : t.Legal where
  memory := h.memory hs.memory
  psw := by simpa only [h.product] using h.psw hs.psw
  bpsw := by simpa only [h.product] using h.bpsw hs.bpsw
  userStack hpm := h.userStack (h.pm ▸ hpm) (hs.userStack (h.pm ▸ hpm))

theorem KeepsMode.keepsLegal {s t : State} (h : KeepsMode s t) : KeepsLegal s t where
  product := h.product
  memory := h.memory
  pm := h.mode.pm
  psw hs hi := h.mode.ipl ▸ hs hi
  bpsw hs := h.bpsw ▸ hs
  userStack _ hu := h.mode.u.trans hu

namespace KeepsLegal

variable {s t : State}

theorem refl (s : State) : KeepsLegal s s := ⟨rfl, id, rfl, id, id, fun _ => id⟩

theorem advance (h : KeepsLegal s t) (n : Nat) : KeepsLegal s (t.advance n) :=
  ⟨h.product, h.memory, h.pm, h.psw, h.bpsw, h.userStack⟩

theorem changeBit (s : State) (b : PswBit) (v : Bool) : KeepsLegal s (s.changeBit b v) := by
  cases hpm : s.psw.pm with
  | true => exact (KeepsMode.changeBit hpm b v).keepsLegal
  | false =>
    rw [State.changeBit_eq, hpm, Bool.false_and, if_neg Bool.false_ne_true]
    exact ⟨rfl, id, Psw.setBit_pm .., fun hs hi => by simpa using hs hi, id, fun h => nomatch hpm.symm.trans h⟩

/-- MVTC and POPC write what the mode lets them write (R33, R541). -/
theorem ctrlWrite (h : KeepsLegal s t) (cr : CReg) (v : Word) : KeepsLegal s (t.ctrlWrite cr v) := by
  cases cr with
  | psw =>
    refine ⟨h.product, h.memory, (Psw.write_pm ..).trans h.pm, fun hs => ?_, h.bpsw, fun hpm hu => ?_⟩
    · rw [← h.product] at hs ⊢
      exact Psw.write_fits (by simpa only [h.product] using h.psw (by simpa only [h.product] using hs))
    · exact ((Psw.SameMode.write_user (h.pm.trans hpm)).u).trans (h.userStack hpm hu)
  | pc => exact h
  | usp => exact ⟨h.product, h.memory, h.pm, h.psw, h.bpsw, h.userStack⟩
  | fpsw =>
    unfold State.ctrlWrite
    dsimp only
    split
    · exact ⟨h.product, h.memory, h.pm, h.psw, h.bpsw, h.userStack⟩
    · exact h
  | bpsw =>
    unfold State.ctrlWrite State.supervisorOnly
    dsimp only
    split
    · exact h
    · exact ⟨h.product, h.memory, h.pm, h.psw, fun _ => h.product ▸ Psw.ofWord_fits _ v, h.userStack⟩
  | bpc | isp | fintv | intb =>
    unfold State.ctrlWrite State.supervisorOnly
    dsimp only
    split
    · exact h
    · exact ⟨h.product, h.memory, h.pm, h.psw, h.bpsw, h.userStack⟩

end KeepsLegal

/-- Every instruction but RTE and RTFI keeps PM and what makes the state legal, or is cancelled by an exception. -/
theorem exec_keepsLegal (i : Instr) (s : State) (hrte : i ≠ .rte) (hrtfi : i ≠ .rtfi) :
    RunsTo s (KeepsLegal s) (exec i s) := by
  cases hi : i.isSystem with
  | false => exact (exec_ordinary i s hi).mono fun _ => KeepsMode.keepsLegal
  | true =>
    cases i with
    | popc cr =>
      rw [exec_popc]
      exact .popWord fun v => .next ((((KeepsMode.refl s).setSp _).keepsLegal.ctrlWrite cr v).advance 2)
    | mvtcImm imm cr => exact .next (((KeepsLegal.refl s).ctrlWrite cr _).advance _)
    | mvtcR rs cr => exact .next (((KeepsLegal.refl s).ctrlWrite cr _).advance 3)
    | setpsw cb | clrpsw cb => exact .next ((KeepsLegal.changeBit s cb _).advance 2)
    | mvtipl imm =>
      refine .ite (.privileged fun _ => .next ?_) (.raise rfl)
      exact ⟨rfl, id, rfl, fun _ => maskLevel_fits _ imm, id, fun _ => id⟩
    | wait => exact .privileged fun _ => .next ⟨rfl, id, rfl, id, id, fun _ => id⟩
    | rte => exact absurd rfl hrte
    | rtfi => exact absurd rfl hrtfi
    | _ => cases hi

/-! ### The returns -/

/-- The state RTE leaves, from a stack that can be read (R550). -/
theorem State.returnFromStack_eq (s : State) (h0 : s.Readable s.sp 4) (h4 : s.Readable (s.sp + 4) 4) :
    s.returnFromStack = .next
      { ((s.setSp (s.sp + 8)).withPsw (Psw.restore s.product.ipl3 (s.peek (s.sp + 4) .l))).goto (s.peek s.sp .l) with
        rmpa := s.rmpa.resume (s.peek s.sp .l) } := by
  have hany : ¬([s.sp, s.sp + 4].any fun a => s.faultAt a 4 .read) = true := by
    simp only [List.any_cons, List.any_nil, h0, h4]
    decide
  exact if_neg hany

/-- The part of `Legal` that a return restores: the product is kept, IPL fits, user mode has the user stack. -/
structure Restored (s t : State) : Prop where
  product : t.product = s.product
  memory : t.mem = s.mem
  psw : ∃ v, t.psw = Psw.restore s.product.ipl3 v
  bpsw : s.bpsw.Fits s.product.ipl3 → t.bpsw.Fits s.product.ipl3

theorem Restored.legal {s t : State} (h : Restored s t) (hs : s.Legal) : t.Legal := by
  obtain ⟨v, hv⟩ := h.psw
  exact ⟨h.memory ▸ hs.memory, by rw [hv, h.product]; exact Psw.restore_fits _ v,
    h.product ▸ h.bpsw hs.bpsw, fun hpm => by rw [hv] at hpm ⊢; exact Psw.restore_user hpm⟩

theorem exec_rte_restored (s : State) : RunsTo s (Restored s) (exec .rte s) := by
  rw [exec_rte]
  refine .privileged fun _ => ?_
  refine .loadAll fun vs => .next ⟨?_, ?_, ⟨vs.getD 1 0, rfl⟩, ?_⟩
  all_goals simp

theorem exec_rtfi_restored (s : State) : RunsTo s (Restored s) (exec .rtfi s) := by
  rw [exec_rtfi]
  exact .privileged fun _ => .next ⟨rfl, rfl, ⟨s.bpsw.toWord, rfl⟩, fun _ => Psw.ofWord_fits _ _⟩

/-! ### Entries -/

theorem State.entryIpl_fits {s : State} (h : s.psw.Fits s.product.ipl3) (e : Exc) (hi : s.product.ipl3 = true) :
    (s.entryIpl e).toNat ≤ 7 := by
  cases e with
  | nmi => exact maskLevel_fits _ _ hi
  | interrupt n l => exact maskLevel_fits _ l hi
  | undefined | privileged | access | floating | trap => exact h hi

theorem State.entered_legal (s : State) (h : s.Legal) (e : Exc) (pc : Word) : (s.entered e pc).Legal where
  memory := s.entered_mem_wf e pc h.memory
  psw := by simpa using State.entryIpl_fits h.psw e
  bpsw := by simpa using h.bpsw
  userStack := by simp

theorem State.enterFast_legal {s : State} (h : s.Legal) (level : BitVec 4) : (s.enterFast level).Legal :=
  ⟨h.memory, maskLevel_fits _ level, h.psw, fun hpm => nomatch hpm⟩

theorem Trapped.legal {s t : State} (h : Trapped s t) (hs : s.Legal) : t.Legal := by
  have hf := h.frame
  exact ⟨hf.memory hs.memory, by rw [hf.psw, hf.product]; exact hs.psw,
    by rw [hf.bpsw, hf.product]; exact hs.bpsw, fun hpm => by rw [hf.psw] at hpm; cases hpm⟩

/-! ### exec and step -/

theorem exec_legal {i : Instr} {s t : State} (hs : s.Legal) (h : exec i s = .next t) :
    t.Legal ∧ t.product = s.product := by
  have htrap (ht : Trapped s t) : t.Legal ∧ t.product = s.product := ⟨ht.legal hs, ht.frame.product⟩
  have hret {P : State → Prop} (hP : RunsTo s P (exec i s)) (hl : P t → t.Legal ∧ t.product = s.product) :
      t.Legal ∧ t.product = s.product := (hP t h).elim hl htrap
  by_cases hrte : i = .rte
  · exact hret (hrte ▸ exec_rte_restored s) fun hr => ⟨hr.legal hs, hr.product⟩
  · by_cases hrtfi : i = .rtfi
    · exact hret (hrtfi ▸ exec_rtfi_restored s) fun hr => ⟨hr.legal hs, hr.product⟩
    · exact hret (exec_keepsLegal i s hrte hrtfi) fun hk => ⟨hk.legal hs, hk.product⟩

/-- The state differs only in what sampling and accepting an input write. -/
def Sampled (s u : State) : Prop := ∃ q n a, u = { s with inputs := q, nmiPending := n, ack := a }

theorem Sampled.sample (s : State) : Sampled s s.sample := ⟨_, _, _, rfl⟩

theorem Sampled.legal {s u : State} (h : Sampled s u) (hs : s.Legal) : u.Legal ∧ u.product = s.product := by
  obtain ⟨q, n, a, rfl⟩ := h
  exact ⟨⟨hs.memory, hs.psw, hs.bpsw, hs.userStack⟩, rfl⟩

/-- What one step can be (R608): a reset, the entry of an exception or interrupt, going on waiting, or an
instruction. -/
inductive Stepped (s t : State) : Prop
  | reset (h : s.sample.doReset = .next t)
  | entry (u : State) (e : Exc) (hu : Sampled s u) (h : t = u.entered e u.pc)
  | fast (u : State) (level : BitVec 4) (hu : Sampled s u) (h : t = u.enterFast level)
  | wait (h : t = s.sample)
  | instr (i : Instr) (hf : s.sample.fetch = .instr i) (h : exec i s.sample = .next t)

theorem State.acceptIrq_next {s t u : State} {irq : Irq} {fast : Option Nat} (hu : Sampled s u)
    (h : u.acceptIrq irq fast = .next t) : Stepped s t := by
  obtain ⟨q, n, a, rfl⟩ := hu
  unfold State.acceptIrq at h
  dsimp only at h
  split at h
  · cases h
    exact .fast _ _ ⟨q, n, some irq, rfl⟩ rfl
  · exact .entry _ _ ⟨q, n, some irq, rfl⟩ (State.enter_next h)

theorem State.runInstr_next {s t : State} (h : s.sample.runInstr = .next t) : Stepped s t := by
  unfold State.runInstr at h
  split at h
  · exact .instr _ ‹_› h
  · exact .entry _ _ (.sample s) (State.raise_next h)
  · exact .entry _ _ (.sample s) (State.raise_next h)

theorem step_next {s t : State} (h : step s = .next t) : Stepped s t := by
  unfold step at h
  dsimp only at h
  split at h
  · exact .reset h
  · split at h
    · exact .entry _ _ ⟨_, _, _, rfl⟩ (State.enter_next h)
    · split at h
      · exact State.acceptIrq_next (.sample s) h
      · split at h
        · cases h
          exact .wait rfl
        · exact State.runInstr_next h

theorem State.doReset_bpsw {s t : State} (h : s.doReset = .next t) : t.bpsw.Fits s.product.ipl3 := by
  unfold State.doReset at h
  dsimp only at h
  split at h
  · cases h
  · cases h
    exact Psw.ofWord_fits _ _

theorem State.doReset_legal {s t : State} (hs : s.Legal) (h : s.doReset = .next t) :
    t.Legal ∧ t.product = s.product := by
  obtain ⟨hpsw, -, -, -, hmem, -, -, hprod, -, -⟩ := State.doReset_next h
  refine ⟨⟨hmem ▸ hs.memory, fun _ => ?_, hprod ▸ State.doReset_bpsw h, fun hpm => ?_⟩, hprod⟩
  · rw [hpsw]
    decide
  · rw [hpsw] at hpm
    cases hpm

/-- Settles O6, by the kinds of step and, for an instruction, by what every instruction keeps. -/
theorem stepKeepsLegalStates : Obligations.StepKeepsLegalStates := by
  intro s t hs h
  have hsample {u : State} (hu : Sampled s u) : u.Legal ∧ u.product = s.product := hu.legal hs
  obtain ⟨hlegal, hprod⟩ := hsample (.sample s)
  cases step_next h with
  | reset h => exact hprod ▸ State.doReset_legal hlegal h
  | entry u e hu h =>
    obtain ⟨hu, hup⟩ := hsample hu
    exact h ▸ ⟨u.entered_legal hu e u.pc, (u.entered_product e u.pc).trans hup⟩
  | fast u level hu h =>
    obtain ⟨hu, hup⟩ := hsample hu
    exact h ▸ ⟨State.enterFast_legal hu level, hup⟩
  | wait h => exact h ▸ ⟨hlegal, hprod⟩
  | instr i hf h => exact hprod ▸ exec_legal hlegal h

/-! ### Entering user mode -/

theorem Psw.restore_ipl_toNat (ipl3 : Bool) (v : Word) :
    (Psw.restore ipl3 v).ipl.toNat = v.toNat / 2 ^ 24 % (if ipl3 then 8 else 16) := Psw.ofWord_ipl_toNat ipl3 v

/-- An instruction that enters user mode is RTE or RTFI. -/
theorem exec_enters_user {i : Instr} {s t : State} (hs : s.psw.pm = false) (h : exec i s = .next t)
    (ht : t.psw.pm = true) : i = .rte ∨ i = .rtfi := by
  by_contra hi
  obtain ⟨hrte, hrtfi⟩ := not_or.1 hi
  rcases exec_keepsLegal i s hrte hrtfi t h with hk | hk
  · exact absurd (hk.pm.symm.trans ht) (by simp [hs])
  · rw [hk.frame.psw] at ht
    cases ht

theorem step_enters_user {s t : State} (hs : s.psw.pm = false) (h : step s = .next t) (ht : t.psw.pm = true) :
    s.sample.fetch = .instr .rte ∨ s.sample.fetch = .instr .rtfi := by
  cases step_next h with
  | reset h =>
    obtain ⟨hpsw, -⟩ := State.doReset_next h
    rw [hpsw] at ht
    cases ht
  | entry u e hu h =>
    rw [h, State.entered_psw] at ht
    cases ht
  | fast u level hu h =>
    rw [h] at ht
    cases ht
  | wait h =>
    rw [h, State.sample_psw, hs] at ht
    cases ht
  | instr i hf h =>
    rcases exec_enters_user (s := s.sample) hs h ht with rfl | rfl
    · exact .inl hf
    · exact .inr hf

theorem exec_rte_psw {s t : State} (hs : s.psw.pm = false) (h : exec .rte s = .next t) (h0 : s.Readable (s.reg 0) 4)
    (h4 : s.Readable (s.reg 0 + 4) 4) :
    t.psw = Psw.restore s.product.ipl3 (s.peek (s.reg 0 + 4) .l) := by
  rw [exec_rte, execRte, State.privileged, hs, if_neg Bool.false_ne_true, State.returnFromStack_eq s h0 h4] at h
  cases h
  rfl

theorem exec_rtfi_psw {s t : State} (hs : s.psw.pm = false) (h : exec .rtfi s = .next t) :
    t.psw = Psw.restore s.product.ipl3 s.bpsw.toWord := by
  rw [exec_rtfi, execRtfi, State.privileged, hs, if_neg Bool.false_ne_true] at h
  cases h
  rfl

/-- Settles O19. -/
theorem onlyReturnsEnterUserMode : Obligations.OnlyReturnsEnterUserMode := by
  refine ⟨?_, fun s t => exec_rte_psw, fun s t => exec_rtfi_psw, fun s t => step_enters_user⟩
  rintro ipl3 v _ rfl
  exact ⟨rfl, rfl, rfl, rfl, rfl, rfl, rfl, Psw.restore_ipl_toNat ipl3 v⟩

end Sys2Proof.Machine
end

section
/-! Frames of a register write, a push and a pop, and the statements about PSW and FPSW (R33 to R36, R45, R47). -/

namespace Sys2Proof.Machine

/-! ### Frames -/

theorem SamePsw.of_eq {bits : List PswBit} {s t : State} (h : t.psw = s.psw) : SamePsw bits s t :=
  ⟨fun _ _ => by rw [h], by rw [h], by rw [h]⟩

@[simp] theorem Psw.bit_setBit (p : Psw) (b : PswBit) (v : Bool) : (p.setBit b v).bit b = v := by cases b <;> rfl

theorem Psw.bit_setBit_ne (p : Psw) {b d : PswBit} (v : Bool) (h : d ≠ b) : (p.setBit b v).bit d = p.bit d := by
  revert h
  cases b <;> cases d <;> simp [Psw.bit, Psw.setBit]

theorem SamePsw.of_setBit {s t : State} {b : PswBit} {v : Bool} (h : t.psw = s.psw.setBit b v) : SamePsw [b] s t :=
  ⟨fun d hd => by rw [h, Psw.bit_setBit_ne _ _ (by simpa using hd)], by simp [h], by simp [h]⟩

theorem SameRegs.refl (regs : List Reg) (s : State) : SameRegs regs s s := ⟨fun _ _ => rfl, rfl⟩

theorem SameRegs.setReg {s t : State} {regs : List Reg} (h : SameRegs regs s t) {r : Reg} (hr : r ∈ regs) (v : Word) :
    SameRegs regs s (t.setReg r v) :=
  ⟨fun q hq => (t.reg_setReg_ne v (ne_of_mem_of_not_mem hr hq).symm).trans (h.regs q hq),
    (t.otherSp_setReg r v).trans h.otherSp⟩

theorem SameControl.refl (s : State) : SameControl s s := ⟨rfl, rfl, rfl, rfl, rfl, rfl, rfl, rfl, rfl, rfl⟩

theorem SameControl.setReg {s t : State} (h : SameControl s t) (r : Reg) (v : Word) : SameControl s (t.setReg r v) := by
  constructor <;> simp [h.intb, h.bpc, h.bpsw, h.fintv, h.waiting, h.nmiPending, h.product, h.inputs, h.ack, h.rmpa]

theorem SameControl.poke {s t : State} (h : SameControl s t) (a : Word) (sz : Size) (v : Word) :
    SameControl s (t.poke a sz v) := by
  constructor <;> simp [h.intb, h.bpc, h.bpsw, h.fintv, h.waiting, h.nmiPending, h.product, h.inputs, h.ack, h.rmpa]

theorem SameControl.goto {s t : State} (h : SameControl s t) (a : Word) : SameControl s (t.goto a) :=
  ⟨h.intb, h.bpc, h.bpsw, h.fintv, h.waiting, h.nmiPending, h.product, h.inputs, h.ack, h.rmpa⟩

theorem State.byteAt_setReg (s : State) (r : Reg) (v a : Word) : (s.setReg r v).byteAt a = s.byteAt a := by
  simp [State.byteAt]

namespace Frame

variable {regs : List Reg} {bits : List PswBit} {s t : State}

theorem refl (regs : List Reg) (bits : List PswBit) (s : State) : Frame regs bits s s :=
  ⟨.refl regs s, .of_eq rfl, .refl s, rfl, rfl, fun _ => rfl⟩

theorem setReg (h : Frame regs bits s t) {r : Reg} (hr : r ∈ regs) (v : Word) : Frame regs bits s (t.setReg r v) where
  regs := h.regs.setReg hr v
  psw := ⟨by simpa using h.psw.bits, by simpa using h.psw.pm, by simpa using h.psw.ipl⟩
  control := h.control.setReg r v
  fpsw := by simpa using h.fpsw
  acc := by simpa using h.acc
  memory a := (t.byteAt_setReg r v a).trans (h.memory a)

theorem goto (h : Frame regs bits s t) (a : Word) : Frame regs bits s (t.goto a) :=
  ⟨⟨h.regs.regs, h.regs.otherSp⟩, ⟨h.psw.bits, h.psw.pm, h.psw.ipl⟩, h.control.goto a, h.fpsw, h.acc, h.memory⟩

theorem advance (h : Frame regs bits s t) (n : Nat) : Frame regs bits s (t.advance n) := h.goto _

end Frame

/-- Writing one register and going on changes nothing else. -/
theorem State.assign_wrote (s : State) (rd : Reg) (v : Word) (n : Nat) :
    Reaches (s.assign rd v n) (Wrote rd v [] n s) :=
  ⟨_, rfl, by simp [State.reg_setReg_same], by simp [State.after],
    ((Frame.refl [rd] [] s).setReg (List.mem_singleton.2 rfl) v).advance n⟩

/-- The state `push32` goes on with (R7). -/
def State.pushed (s : State) (v : Word) : State := (s.poke (s.reg 0 - 4) .l v).setReg 0 (s.reg 0 - 4)

theorem State.push_eq (s : State) (v : Word) (k : State → Out) (h : s.Writable (s.reg 0 - 4) 4) :
    s.push v k = k (s.pushed v) := State.store_eq s (s.reg 0 - 4) .l v (fun t => k (t.setSp (s.reg 0 - 4))) h

theorem State.pushed_byteAt (s : State) (v a : Word) :
    (s.pushed v).byteAt a = (s.poke (s.reg 0 - 4) .l v).byteAt a := State.byteAt_setReg ..

theorem State.pushed_peek (s : State) (v : Word) (hm : Memory.wf s.mem = true) :
    (s.pushed v).peek (s.reg 0 - 4) .l = v := by
  rw [State.peek_congr (s := s.poke (s.reg 0 - 4) .l v) (by simp [State.pushed]) fun _ _ => s.pushed_byteAt v _]
  exact s.peek_poke_same _ .l v hm

/-- A push changes R0 and the four bytes below the old top. -/
theorem State.pushed_frame (s : State) (v : Word) : FrameStore [0] (s.reg 0 - 4) 4 s (s.pushed v) where
  regs :=
    have hpoke : SameRegs [0] s (s.poke (s.reg 0 - 4) .l v) := ⟨fun r _ => s.reg_poke _ _ _ r, s.otherSp_poke _ _ _⟩
    hpoke.setReg (List.mem_singleton.2 rfl) _
  psw := by simp [State.pushed]
  control := ((SameControl.refl s).poke _ _ _).setReg _ _
  fpsw := by simp [State.pushed]
  acc := by simp [State.pushed]
  memory b hb := (s.pushed_byteAt v b).trans (s.byteAt_poke_ne _ _ _ _ hb)

theorem FrameStore.goto {regs : List Reg} {a : Word} {n : Nat} {s t : State} (h : FrameStore regs a n s t) (pc : Word) :
    FrameStore regs a n s (t.goto pc) :=
  ⟨⟨h.regs.regs, h.regs.otherSp⟩, h.psw, h.control.goto pc, h.fpsw, h.acc, h.memory⟩

/-- A longword pushed where it can be written, by an instruction that then goes to `pc`. -/
theorem State.push_pushed (s : State) (v pc : Word) (k : State → Out) (h : s.Writable (s.reg 0 - 4) 4)
    (hm : Memory.wf s.mem = true) (hk : k (s.pushed v) = .next ((s.pushed v).goto pc)) :
    Reaches (s.push v k) (Pushed .l v pc s) :=
  ⟨(s.pushed v).goto pc, (s.push_eq v k h).trans hk, s.pushed_peek v hm, State.reg_setReg_same _ 0 _, rfl,
    (s.pushed_frame v).goto pc⟩

/-! ### Exception entry and the PSW -/

/-- Settles O11, from what entry leaves. -/
theorem entryWritesThePsw : Obligations.EntryWritesThePsw := by
  intro s savedPc e level hm
  refine ⟨fun t ht => ?_, rfl, rfl⟩
  obtain rfl := State.enter_next ht
  rw [State.entered_psw]
  refine ⟨s.entered_savedPsw e savedPc hm, rfl, rfl, rfl, rfl, rfl, rfl, rfl, ?_, ?_, fun hnmi hint => ?_⟩
  · rintro rfl
    cases hi : s.product.ipl3 <;> simp [State.entryIpl, maskLevel, hi]
  · rintro n l rfl
    rfl
  · cases e with
    | nmi => exact absurd rfl hnmi
    | interrupt n l => exact absurd rfl (hint n l)
    | undefined | privileged | access | floating | trap => rfl

/-! ### SETPSW, CLRPSW and MVTIPL -/

theorem changeBit_mode_iff (p : Psw) (b : PswBit) :
    (p.pm && b.restricted) = true ↔ p.pm = true ∧ (b = .i ∨ b = .u) := by
  cases b <;> simp [PswBit.restricted]

theorem State.changeBit_bit (s : State) (b : PswBit) (v : Bool) :
    (s.changeBit b v).psw.bit b = if s.psw.pm = true ∧ (b = .i ∨ b = .u) then s.psw.bit b else v := by
  simp only [← changeBit_mode_iff]
  rw [State.changeBit_eq, State.withPsw_psw]
  split
  · rfl
  · exact Psw.bit_setBit ..

theorem SameControl.withPsw {s t : State} (h : SameControl s t) (p : Psw) : SameControl s (t.withPsw p) :=
  ⟨h.intb, h.bpc, h.bpsw, h.fintv, h.waiting, h.nmiPending, h.product, h.inputs, h.ack, h.rmpa⟩

/-- What SETPSW and CLRPSW leave: the named bit and the PC alone differ. -/
theorem State.changeBit_rest (s : State) (b : PswBit) (v : Bool) :
    SamePsw [b] s ((s.changeBit b v).advance 2) ∧ ((s.changeBit b v).advance 2).pc = s.after 2 ∧
      (s.changeBit b v).regs = s.regs ∧ (s.changeBit b v).isp = s.isp ∧ (s.changeBit b v).usp = s.usp ∧
      (s.changeBit b v).fpsw = s.fpsw ∧ (s.changeBit b v).acc = s.acc ∧
      SameControl s ((s.changeBit b v).advance 2) ∧ SameMemory s (s.changeBit b v) := by
  rw [State.changeBit_eq]
  refine ⟨?_, rfl, rfl, rfl, rfl, rfl, rfl, ((SameControl.refl s).withPsw _).goto _, fun _ => rfl⟩
  split
  · exact .of_eq rfl
  · exact .of_setBit rfl

/-- Settles O56. -/
theorem pswBitsAreSetAndCleared : Obligations.PswBitsAreSetAndCleared := by
  intro s b imm hm
  refine ⟨?_, fun hinst => ⟨fun hpm => ?_, fun hpm => ?_⟩⟩
  · rintro v i (⟨rfl, rfl⟩ | ⟨rfl, rfl⟩)
    · exact ⟨_, rfl, s.changeBit_bit b true, s.changeBit_rest b true⟩
    · exact ⟨_, rfl, s.changeBit_bit b false, s.changeBit_rest b false⟩
  · rw [Completes, exec_mvtipl, execMvtipl, if_pos hinst, State.privileged, if_neg (by simp [hpm])]
    exact ⟨_, rfl, rfl, rfl, rfl, rfl, rfl, rfl, rfl, ((SameControl.refl s).withPsw _).goto _, fun _ => rfl⟩
  · rw [exec_mvtipl, execMvtipl, if_pos hinst, State.privileged_of_user hpm]
    exact s.enter_entersAt .privileged s.pc hm

/-! ### MVTC and POPC to the PSW -/

/-- The reserved bits of the PSW read 0 (D3). -/
theorem Psw.toWord_reserved (p : Psw) {j : Nat} (hj : j < 32)
    (h : j ∉ [0, 1, 2, 3, 16, 17, 20, 24, 25, 26, 27]) : p.toWord.getLsbD j = false := by
  simp only [Psw.toWord, BitVec.getLsbD_append]
  interval_cases j <;> simp at h ⊢

/-- `psw_write`, field by field: the flags in both modes, I, U and IPL in supervisor mode only, PM never (R33). -/
theorem Psw.write_fields (ipl3 : Bool) (v : Word) (p : Psw) :
    (p.write ipl3 v).c = v.getLsbD 0 ∧ (p.write ipl3 v).z = v.getLsbD 1 ∧ (p.write ipl3 v).s = v.getLsbD 2 ∧
    (p.write ipl3 v).o = v.getLsbD 3 ∧ (p.write ipl3 v).pm = p.pm ∧
    (p.pm = false → (p.write ipl3 v).i = v.getLsbD 16 ∧ (p.write ipl3 v).u = v.getLsbD 17 ∧
      (p.write ipl3 v).ipl.toNat = v.toNat / 2 ^ 24 % (if ipl3 then 8 else 16)) ∧
    (p.pm = true → (p.write ipl3 v).i = p.i ∧ (p.write ipl3 v).u = p.u ∧ (p.write ipl3 v).ipl = p.ipl) := by
  cases h : p.pm with
  | true =>
    rw [Psw.write_user h]
    exact ⟨rfl, rfl, rfl, rfl, h, nofun, fun _ => ⟨rfl, rfl, rfl⟩⟩
  | false =>
    rw [Psw.write_supervisor h]
    exact ⟨rfl, rfl, rfl, rfl, rfl, fun _ => ⟨rfl, rfl, Psw.ofWord_ipl_toNat ipl3 v⟩, nofun⟩

/-- POPC from a stack that can be read: the stack pointer rises, then the register is written (R385). -/
theorem exec_popc_eq {s : State} (h : s.Readable (s.reg 0) 4) (cr : CReg) :
    exec (.popc cr) s = .next (((s.setSp (s.reg 0 + 4)).ctrlWrite cr (s.peek (s.reg 0) .l)).advance 2) :=
  State.load_eq s (s.reg 0) .l (fun v => .next (((s.setSp (s.reg 0 + 4)).ctrlWrite cr v).advance 2)) h

/-- Settles O57: each form goes on from a state whose PSW is the written one. -/
theorem pswWritesObeyTheMode : Obligations.PswWritesObeyTheMode := by
  intro s rs imm v i hi
  have hwritten : ∃ t, exec i s = .next t ∧ t.psw = s.psw.write s.product.ipl3 v := by
    rcases hi with ⟨rfl, rfl⟩ | ⟨rfl, rfl⟩ | ⟨rfl, rfl, hr⟩
    · exact ⟨_, rfl, rfl⟩
    · exact ⟨_, rfl, rfl⟩
    · exact ⟨_, exec_popc_eq hr .psw, by simp [State.ctrlWrite]⟩
  obtain ⟨t, ht, hpsw⟩ := hwritten
  obtain ⟨hc, hz, hs, ho, hpm, hsup, huser⟩ := hpsw ▸ Psw.write_fields s.product.ipl3 v s.psw
  exact ⟨t, ht, hc, hz, hs, ho, hpm, hsup, huser, fun j hj h => t.psw.toWord_reserved hj h, rfl⟩

/-! ### FPSW -/

theorem Fpsw.toWord_fs (f : Fpsw) : f.toWord.getLsbD 31 =
    (f.toWord.getLsbD 29 || f.toWord.getLsbD 28 || f.toWord.getLsbD 27 || f.toWord.getLsbD 26) := by
  simp only [Fpsw.toWord, BitVec.getLsbD_append]
  simp [Fpsw.fs]

/-- A write to b31 has no effect: `fpsw_write` reads no bit of b31 (R45, R46). -/
theorem Fpsw.write_xor_top (f : Fpsw) (v : Word) : f.write (v ^^^ 0x80000000) = f.write v := by
  simp [Fpsw.write, BitVec.extractLsb'_xor]

theorem State.fpswWord_eq_zero {s : State} (h : s.product.hasFpu = false) : s.fpswWord = 0 := by
  simp [State.fpswWord, h]

/-- Without floating-point instructions a write to FPSW is ignored (R47). -/
theorem State.ctrlWrite_fpsw_ignored {s : State} (h : s.product.hasFpu = false) (v : Word) :
    s.ctrlWrite .fpsw v = s := by simp [State.ctrlWrite, h]

/-- Settles O36. -/
theorem fpswReadsAsItsRulesSay : Obligations.FpswReadsAsItsRulesSay := by
  intro s rs rd imm
  refine ⟨fun hfpu => ⟨?_, fun v => s.fpsw.write_xor_top v, fun hrd t u v ht hu => ?_⟩,
    fun hfpu => ⟨?_, fun hw hm => ?_, fun hr => ?_, ?_, ?_⟩⟩
  · refine ⟨_, rfl, ?_⟩
    dsimp only
    rw [State.reg_advance, State.reg_setReg_same, State.ctrlRead, State.fpswWord, if_pos hfpu]
    exact s.fpsw.toWord_fs
  · rw [exec_mvtcR, execMvtcR] at ht hu
    rw [hrd, State.ctrlWrite, Fpsw.write_xor_top] at hu
    cases ht.symm.trans hu
    rfl
  · rw [Completes, exec_mvfc, execMvfc, State.ctrlRead, State.fpswWord_eq_zero hfpu]
    exact s.assign_wrote rd 0 3
  · rw [Completes, exec_pushc, execPushc, State.ctrlRead, State.fpswWord_eq_zero hfpu]
    exact s.push_pushed 0 (s.after 2) _ hw hm (by simp [State.advance, State.after, State.pushed])
  · refine ⟨_, exec_popc_eq hr .fpsw, ?_⟩
    rw [State.ctrlWrite_fpsw_ignored (by simpa using hfpu)]
    have hframe := (Frame.refl [0] [] s).setReg (List.mem_singleton.2 rfl) (s.reg 0 + 4)
    exact ⟨s.reg_setReg_same 0 _, by simp [State.after], hframe.advance 2⟩
  · refine ⟨_, rfl, ?_⟩
    rw [State.ctrlWrite_fpsw_ignored hfpu]
    exact ⟨rfl, (Frame.refl [] [] s).advance 3⟩
  · refine ⟨_, rfl, ?_⟩
    rw [State.ctrlWrite_fpsw_ignored hfpu]
    exact ⟨rfl, (Frame.refl [] [] s).advance _⟩

end Sys2Proof.Machine
end

section
/-! Instructions a product lacks are undefined instructions to the decoder and to exec (R47, R544, D6, D20). -/

namespace Sys2Proof

/-! ### The decoder -/

theorem fpu_absent {p : Product} (h : p.hasFpu = false) (k : Decoded) : fpu p k = .undefined .notInstalled :=
  if_neg (by simp [h])

/-- The opcode fields of the FC page that belong to the floating-point instructions (R148). -/
def fpuRows : List (BitVec 6) :=
  [0b010001, 0b100000, 0b100001, 0b100010, 0b100011, 0b100100, 0b100101, 0b100110]

theorem bitVec2_cases (x : BitVec 2) : x = 0 ∨ x = 1 ∨ x = 2 ∨ x = 3 := by
  revert x
  decide

theorem decode_fpuRow {p : Product} (h : p.hasFpu = false) {o : BitVec 6} (ho : o ∈ fpuRows) (ld : BitVec 2)
    (r : List Byte) : decode p (0xFC :: (o ++ ld) :: r) = .undefined .notInstalled := by
  obtain ⟨k, hk⟩ : ∃ k, decode p (0xFC :: (o ++ ld) :: r) = fpu p k := by
    simp only [fpuRows, List.mem_cons, List.not_mem_nil, or_false] at ho
    rcases ho with rfl | rfl | rfl | rfl | rfl | rfl | rfl | rfl <;>
      rcases bitVec2_cases ld with rfl | rfl | rfl | rfl <;> exact ⟨_, rfl⟩
  rw [hk, fpu_absent h]

theorem decode_fpuImm {p : Product} (h : p.hasFpu = false) (r : List Byte) :
    decode p (0xFD :: 0x72 :: r) = .undefined .notInstalled := fpu_absent h _

theorem Dsp.bits_ne_three (d : Dsp) : d.bits ≠ 3 := by cases d <;> simp [Dsp.bits]

theorem decode_itofMx {p : Product} (h : p.hasFpu = false) (m : BitVec 2) {ld : BitVec 2} (hld : ld ≠ 3)
    (r : List Byte) : decode p (0x06 :: (m ++ 0b1000#4 ++ ld) :: 0x11 :: r) = .undefined .notInstalled := by
  obtain ⟨k, hk⟩ : ∃ k, decode p (0x06 :: (m ++ 0b1000#4 ++ ld) :: 0x11 :: r) = fpu p k := by
    have hmem : ld = 0 ∨ ld = 1 ∨ ld = 2 := by
      have hcases := bitVec2_cases ld
      tauto
    rcases bitVec2_cases m with rfl | rfl | rfl | rfl <;> rcases hmem with rfl | rfl | rfl <;> exact ⟨_, rfl⟩
  rw [hk, fpu_absent h]

theorem decode_mvtipl {p : Product} (h : p.hasMvtipl = false) (r : List Byte) :
    decode p (0x75 :: 0x70 :: r) = .undefined .notInstalled := if_neg (by simp [h])

theorem decode_encode_needsFpu {p : Product} (h : p.hasFpu = false) {i : Instr} (hi : i.needsFpu = true)
    (rest : List Byte) : decode p (encode i ++ rest) = .undefined .notInstalled := by
  cases i with
  | faddImm | fcmpImm | fdivImm | fmulImm | fsubImm => exact decode_fpuImm h _
  | faddRm | fcmpRm | fdivRm | fmulRm | fsubRm | ftoiRm | roundRm | itofRm => exact decode_fpuRow h (by decide) _ _
  | itofMx mx rs d rd => exact decode_itofMx h _ d.bits_ne_three _
  | _ => cases hi

theorem decode_encode_needsMvtipl {p : Product} (h : p.hasMvtipl = false) {i : Instr} (hi : i.needsMvtipl = true)
    (rest : List Byte) : decode p (encode i ++ rest) = .undefined .notInstalled := by
  cases i with
  | mvtipl imm => exact decode_mvtipl h _
  | _ => cases hi

theorem Instr.installed_eq_false_iff (p : Product) (i : Instr) :
    i.installed p = false ↔
      (p.hasFpu = false ∧ i.needsFpu = true) ∨ (p.hasMvtipl = false ∧ i.needsMvtipl = true) := by
  simp only [Instr.installed, Bool.and_eq_false_iff, Bool.or_eq_false_iff, Bool.not_eq_false']

end Sys2Proof

namespace Sys2Proof.Machine

/-! ### exec -/

theorem exec_needsFpu {s : State} (h : s.product.hasFpu = false) {i : Instr} (hi : i.needsFpu = true) :
    exec i s = s.raise .undefined := by
  have habs (k : Out) : s.withFpu k = s.raise .undefined := if_neg (by simp [h])
  cases i with
  | faddImm | fcmpImm | fdivImm | fmulImm | fsubImm | faddRm | fcmpRm | fdivRm | fmulRm | fsubRm | ftoiRm | roundRm
  | itofRm | itofMx => exact habs _
  | _ => cases hi

theorem exec_mvtipl_absent {s : State} (h : s.product.hasMvtipl = false) (imm : BitVec 4) :
    exec (.mvtipl imm) s = s.raise .undefined := if_neg (by simp [h])

/-- Settles O14. -/
theorem absentInstructionsAreUndefined : Obligations.AbsentInstructionsAreUndefined := by
  refine ⟨fun p i rest _ hi => ⟨.notInstalled, ?_⟩, fun s hm => ?_⟩
  · rcases (i.installed_eq_false_iff p).1 hi with ⟨hp, hi⟩ | ⟨hp, hi⟩
    · exact decode_encode_needsFpu hp hi rest
    · exact decode_encode_needsMvtipl hp hi rest
  · have hraise : EntersAt (s.raise .undefined) 0xFFFFFFDC s.psw.ipl s.pc s := s.enter_entersAt .undefined s.pc hm
    exact ⟨fun hp i hi => by rw [UndefinedException, exec_needsFpu hp hi]; exact hraise,
      fun hp imm => by rw [UndefinedException, exec_mvtipl_absent hp]; exact hraise⟩

end Sys2Proof.Machine
end

section
/-! What the bytes of memory say of a longer value and of the canonical form (R81, R82, R85, R88), and every vector of
exception entry (R92, R605). -/

namespace Sys2Proof.Machine

/-! ### Memory as a function of the address -/

@[simp] theorem Memory.get_head (c : Host.Cell) (r : List Host.Cell) : Memory.get (c :: r) c.1 = c.2 := if_pos rfl

theorem Memory.get_cons_ne {c : Host.Cell} {a : Nat} (r : List Host.Cell) (h : c.1 ≠ a) :
    Memory.get (c :: r) a = Memory.get r a := if_neg h

theorem Memory.head_lt_tail {c : Host.Cell} {r : List Host.Cell} (h : Memory.wf (c :: r) = true) :
    ∀ d ∈ r, c.1 < d.1 := (List.pairwise_cons.1 ((Memory.wf_iff _).1 h).1).1

/-- The first listed address is below 2^32 and holds what no unlisted address does. -/
theorem Memory.head_spec {c : Host.Cell} {r : List Host.Cell} (h : Memory.wf (c :: r) = true) :
    c.1 < 2 ^ 32 ∧ c.2 ≠ Memory.blank := ((Memory.wf_iff _).1 h).2 c List.mem_cons_self

theorem Memory.get_below_head {c : Host.Cell} {r : List Host.Cell} (h : Memory.wf (c :: r) = true) {a : Nat}
    (ha : a < c.1) : Memory.get (c :: r) a = Memory.blank := by
  refine Memory.get_of_lt _ _ fun d hd => ?_
  rcases List.mem_cons.1 hd with rfl | hd
  · exact ha
  · exact ha.trans (Memory.head_lt_tail h d hd)

/-- Where two canonical memories read alike, the first address of one is no lower than the first of the other. -/
theorem Memory.head_le_head {c d : Host.Cell} {m n : List Host.Cell} (hm : Memory.wf (c :: m) = true)
    (hn : Memory.wf (d :: n) = true)
    (h : ∀ a < 2 ^ 32, Memory.get (c :: m) a = Memory.get (d :: n) a) : d.1 ≤ c.1 := by
  obtain ⟨hlt, hne⟩ := Memory.head_spec hm
  by_contra hcd
  have hget := h c.1 hlt
  rw [Memory.get_head, Memory.get_below_head hn (by omega)] at hget
  exact hne hget

/-- A canonical memory that reads blank everywhere lists nothing. -/
theorem Memory.eq_nil_of_blank {m : List Host.Cell} (hm : Memory.wf m = true)
    (h : ∀ a < 2 ^ 32, Memory.get m a = Memory.blank) : m = [] := by
  cases m with
  | nil => rfl
  | cons c r =>
    obtain ⟨hlt, hne⟩ := Memory.head_spec hm
    exact absurd ((Memory.get_head c r).symm.trans (h c.1 hlt)) hne

/-- Canonical memories that read alike are equal (log entry 4). -/
theorem Memory.ext_of_get {m n : List Host.Cell} (hm : Memory.wf m = true) (hn : Memory.wf n = true)
    (h : ∀ a < 2 ^ 32, Memory.get m a = Memory.get n a) : m = n := by
  induction m generalizing n with
  | nil => exact (Memory.eq_nil_of_blank hn fun a ha => (h a ha).symm).symm
  | cons c m ih =>
    cases n with
    | nil => exact Memory.eq_nil_of_blank hm h
    | cons d n =>
      have haddr : c.1 = d.1 :=
        le_antisymm (Memory.head_le_head hn hm fun a ha => (h a ha).symm) (Memory.head_le_head hm hn h)
      have hval : c.2 = d.2 := by
        have hget := h c.1 (Memory.head_spec hm).1
        rwa [Memory.get_head, haddr, Memory.get_head] at hget
      obtain rfl : c = d := Prod.ext haddr hval
      refine congrArg (c :: ·) (ih (Memory.wf_tail hm) (Memory.wf_tail hn) fun a ha => ?_)
      by_cases hc : c.1 = a
      · rw [← hc, Memory.get_of_lt m _ (Memory.head_lt_tail hm), Memory.get_of_lt n _ (Memory.head_lt_tail hn)]
      · rw [← Memory.get_cons_ne m hc, ← Memory.get_cons_ne n hc, h a ha]

/-! ### Values read, as numbers -/

theorem toNat_append_byte {w : Nat} (x : BitVec w) (y : Byte) : (x ++ y).toNat = y.toNat + 256 * x.toNat := by
  rw [BitVec.toNat_append, ← Nat.shiftLeft_add_eq_or_of_lt y.isLt, Nat.shiftLeft_eq]
  omega

theorem State.peek_byte_toNat (s : State) (a : Word) : (s.peek a .b).toNat = (s.byteAt a).toNat :=
  BitVec.toNat_setWidth_of_le (by decide)

/-- A word or longword of a little-endian product has its least significant byte at its address (R82). -/
theorem State.peek_little_toNat {s : State} (h : s.product.bigEndian = false) (a : Word) :
    (s.peek a .w).toNat = (s.byteAt a).toNat + 256 * (s.byteAt (a + 1)).toNat ∧
    (s.peek a .l).toNat = (s.byteAt a).toNat + 256 * ((s.byteAt (a + 1)).toNat +
      256 * ((s.byteAt (a + 2)).toNat + 256 * (s.byteAt (a + 3)).toNat)) := by
  simp only [State.peek, h, Bool.false_eq_true, if_false]
  exact ⟨by rw [BitVec.toNat_setWidth_of_le (by decide), toNat_append_byte], by simp only [toNat_append_byte]⟩

/-- A word or longword of a big-endian product has its most significant byte at its address (R82). -/
theorem State.peek_big_toNat {s : State} (h : s.product.bigEndian = true) (a : Word) :
    (s.peek a .w).toNat = (s.byteAt (a + 1)).toNat + 256 * (s.byteAt a).toNat ∧
    (s.peek a .l).toNat = (s.byteAt (a + 3)).toNat + 256 * ((s.byteAt (a + 2)).toNat +
      256 * ((s.byteAt (a + 1)).toNat + 256 * (s.byteAt a).toNat)) := by
  simp only [State.peek, h, if_true]
  exact ⟨by rw [BitVec.toNat_setWidth_of_le (by decide), toNat_append_byte], by simp only [toNat_append_byte]⟩

/-- Zero extension keeps the value modulo the range of the size (R381). -/
theorem zeroExtend_toNat (sz : Size) (v : Word) : (sz.zeroExtend v).toNat = v.toNat % 256 ^ sz.bytes := by
  cases sz with
  | b => exact BitVec.toNat_setWidth_of_le (b := v.extractLsb' 0 8) (by decide)
  | w => exact BitVec.toNat_setWidth_of_le (b := v.extractLsb' 0 16) (by decide)
  | l => exact (Nat.mod_eq_of_lt v.isLt).symm

/-- A store changes no byte but its own. -/
theorem State.poke_sameMemoryBut (s : State) (a : Word) (sz : Size) (v : Word) :
    SameMemoryBut a sz.bytes s (s.poke a sz v) := fun b hb => s.byteAt_poke_ne a b sz v hb

/-- Settles O21. -/
theorem memoryHoldsBytesInOrder : Obligations.MemoryHoldsBytesInOrder := by
  refine ⟨fun m n => Memory.ext_of_get, fun s a v sz hm => ⟨s.peek_byte_toNat a, fun h => s.peek_little_toNat h a,
    fun h => s.peek_big_toNat h a, ?_, s.poke_sameMemoryBut a sz v, s.poke_wf a sz v hm⟩⟩
  rw [s.peek_poke_same a sz v hm, zeroExtend_toNat]

/-! ### Vectors -/

/-- IPL after the entry of an NMI, in the product's width (R32, log entry 8). -/
theorem State.entryIpl_nmi (s : State) : s.entryIpl .nmi = if s.product.ipl3 then 7 else 15 := by
  cases h : s.product.ipl3 <;> simp [State.entryIpl, maskLevel, h]

/-- BRK uses the first vector of the relocatable table (R93, R546). -/
theorem State.tableVector_zero (s : State) : s.tableVector 0 = s.intb := by
  simp [State.tableVector]

/-- Settles O12: each kind's entry, with its vector and IPL; BRK and INT are entries of traps. -/
theorem entryFollowsTheVectorTable : Obligations.EntryFollowsTheVectorTable := by
  intro s savedPc n level hm
  have henter (e : Exc) (pc : Word) : EntersAt (s.enter e pc) (s.vectorAddress e) (s.entryIpl e) pc s :=
    s.enter_entersAt e pc hm
  refine ⟨henter .privileged _, henter .access _, henter .undefined _, henter .floating _, ?_, henter (.trap n) _,
    henter (.interrupt n level) _, ?_, henter (.trap n) (s.after 3)⟩
  · exact s.entryIpl_nmi ▸ henter .nmi savedPc
  · exact s.tableVector_zero ▸ henter (.trap 0) (s.after 1)

end Sys2Proof.Machine
end

section
/-! Memory sources with their extensions (R105, R111), and instructions that end in OR. -/

namespace Sys2Proof.Machine

/-! ### Scaled addresses -/

theorem State.ea_byte (s : State) (r : Reg) (d : Dsp) : s.ea r d .b = s.reg r + d.field :=
  congrArg (s.reg r + ·) (BitVec.mul_one d.field)

theorem State.ea_word (s : State) (r : Reg) (d : Dsp) : s.ea r d .w = s.reg r + 2 * d.field :=
  congrArg (s.reg r + ·) (BitVec.mul_comm d.field 2)

theorem State.ea_long (s : State) (r : Reg) (d : Dsp) : s.ea r d .l = s.reg r + 4 * d.field :=
  congrArg (s.reg r + ·) (BitVec.mul_comm d.field 4)

/-! ### Operands that can be read -/

/-- An instruction with a `mi` memory source goes on with the operand's value. -/
theorem State.withMx_eq {s : State} {mx : Memex} {rs : Reg} {d : Dsp} {v : Word} (h : s.MxIs mx rs d v)
    (k : Word → Out) : s.withMx mx rs d k = k v := by
  obtain ⟨hread, rfl⟩ := h
  exact s.load_eq _ _ _ hread

/-- An instruction with a register or .UB memory source goes on with the operand's value. -/
theorem State.withRm_eq {s : State} {src : RegOrMem} {v : Word} (h : s.RmIs src v) (k : Word → Out) :
    s.withRm src k = k v := by
  cases src with
  | reg r => exact congrArg k h.symm
  | mem b d =>
    obtain ⟨hread, rfl⟩ := h
    rw [← s.ea_byte] at hread ⊢
    exact s.load_eq _ .b k hread

/-! ### Extensions -/

theorem signExtend_byte_setWidth (b : Byte) : Size.b.signExtend (b.setWidth 32) = BitVec.ofInt 32 b.toInt := by
  have hlow : (b.setWidth 32).extractLsb' 0 8 = b := BitVec.eq_of_toNat_eq <| by
    rw [BitVec.extractLsb'_toNat, BitVec.toNat_setWidth_of_le (by decide)]
    exact Nat.mod_eq_of_lt b.isLt
  rw [Size.signExtend, hlow]
  rfl

theorem signExtend_word (v : Word) : Size.w.signExtend v = BitVec.ofInt 32 (BitVec.ofNat 16 v.toNat).toInt := rfl

theorem State.peek_word_lt (s : State) (a : Word) : (s.peek a .w).toNat < 2 ^ 16 := by
  rw [State.peek]
  split
  · rw [BitVec.toNat_setWidth_of_le (by decide)]
    exact BitVec.isLt _
  · rw [BitVec.toNat_setWidth_of_le (by decide)]
    exact BitVec.isLt _

/-- A result with its flags stands in its register. -/
theorem State.finish_value (s : State) (rd : Reg) (r : Word × Psw) (n : Nat) :
    Reaches (s.finish rd r n) fun t => t.reg rd = r.1 :=
  ⟨_, s.finish_eq rd r n, State.reg_setReg_same _ rd r.1⟩

/-- Settles O22. -/
theorem memorySourcesAreExtended : Obligations.MemorySourcesAreExtended := by
  rintro s rs rd d a _ rfl
  refine ⟨fun hread => ⟨⟨?_, ?_⟩, hread, ?_⟩, ?_, ?_, fun mx v hv => ?_, fun v hv => ?_⟩
  · exact s.ea_byte rs d ▸ hread
  · rw [← s.ea_byte]
    exact (signExtend_byte_setWidth _).symm
  · exact BitVec.ofNat_toNat ..
  · rintro rfl hread
    rw [← s.ea_word] at hread ⊢
    exact ⟨⟨hread, (signExtend_word _).symm⟩, ⟨hread, rfl⟩, s.peek_word_lt _⟩
  · rintro rfl hread
    rw [← s.ea_long] at hread ⊢
    exact ⟨hread, rfl⟩
  · rw [Completes, exec_orMx, execOrMx, State.withMx_eq hv]
    exact s.finish_value rd _ _
  · rw [Completes, exec_orRm, execOrRm, State.withRm_eq hv]
    exact s.finish_value rd _ _

end Sys2Proof.Machine
end

section
/-! Loads and stores with their frames, and the addressing modes that update or index (R106 to R108, R382, R383). -/

namespace Sys2Proof.Machine

/-! ### Frames of a store -/

namespace FrameStore

variable {regs : List Reg} {a : Word} {n : Nat} {s t : State}

theorem poke (regs : List Reg) (s : State) (a : Word) (sz : Size) (v : Word) :
    FrameStore regs a sz.bytes s (s.poke a sz v) :=
  ⟨⟨fun r _ => s.reg_poke a sz v r, s.otherSp_poke a sz v⟩, s.poke_psw a sz v, (SameControl.refl s).poke a sz v,
    s.poke_fpsw a sz v, s.poke_acc a sz v, s.poke_sameMemoryBut a sz v⟩

theorem setReg (h : FrameStore regs a n s t) {r : Reg} (hr : r ∈ regs) (v : Word) :
    FrameStore regs a n s (t.setReg r v) :=
  ⟨h.regs.setReg hr v, (t.setReg_psw r v).trans h.psw, h.control.setReg r v, (t.setReg_fpsw r v).trans h.fpsw,
    (t.setReg_acc r v).trans h.acc, fun b hb => (t.byteAt_setReg r v b).trans (h.memory b hb)⟩

theorem advance (h : FrameStore regs a n s t) (k : Nat) : FrameStore regs a n s (t.advance k) := h.goto _

end FrameStore

@[simp] theorem State.peek_setReg (s : State) (r : Reg) (v a : Word) (sz : Size) :
    (s.setReg r v).peek a sz = s.peek a sz :=
  State.peek_congr (s.setReg_product r v) fun _ _ => s.byteAt_setReg r v _

@[simp] theorem State.peek_advance (s : State) (n : Nat) (a : Word) (sz : Size) :
    (s.advance n).peek a sz = s.peek a sz := State.peek_congr rfl fun _ _ => rfl

/-! ### Loads and stores that complete -/

/-- A load where it can be read puts a function of the value in one register. -/
theorem State.load_wrote (s : State) (a : Word) (sz : Size) (f : Word → Word) (rd : Reg) (n : Nat)
    (h : s.Readable a sz.bytes) :
    Reaches (s.load a sz fun v => s.assign rd (f v) n) (Wrote rd (f (s.peek a sz)) [] n s) := by
  rw [s.load_eq a sz _ h]
  exact s.assign_wrote rd _ n

/-- A store where it can be written changes its bytes and the PC. -/
theorem State.storeTo_stored (s : State) (a : Word) (sz : Size) (v : Word) (n : Nat) (h : s.Writable a sz.bytes)
    (hm : Memory.wf s.mem = true) : Reaches (s.storeTo a sz v n) (Stored [] a sz v n s) := by
  refine ⟨_, s.store_eq a sz v _ h, ?_, ?_, (FrameStore.poke [] s a sz v).advance n⟩
  · rw [State.peek_advance, s.peek_poke_same a sz v hm]
  · simp [State.after]

/-! ### Updating modes -/

/-- The load of [Rn+] and [-Rn]: the address register first, the data last (R382 (15), R383 (4)). -/
theorem State.loadAuto_loaded (s : State) (mode : Auto) (sz : Size) (f : Word → Word) (rs rd : Reg)
    (h : s.Readable (s.eaAuto mode rs sz) sz.bytes) :
    Reaches (s.load (s.eaAuto mode rs sz) sz fun v => (s.setReg rs (s.autoUpdated mode rs sz)).assign rd (f v) 3)
      (LoadedAuto rs rd (f (s.peek (s.eaAuto mode rs sz) sz)) (s.autoUpdated mode rs sz) 3 s) := by
  refine ⟨_, s.load_eq _ sz _ h, ?_, fun hne => ?_, ?_, ?_⟩
  · rw [State.reg_advance, State.reg_setReg_same]
  · rw [State.reg_advance, State.reg_setReg_ne _ _ hne, State.reg_setReg_same]
  · simp [State.after]
  · exact (((Frame.refl [rs, rd] [] s).setReg (by simp) _).setReg (by simp) _).advance 3

/-- The store of [Rn+] and [-Rn]: the data is what the register held before the update (R382 (14)). -/
theorem State.storeAuto_stored (s : State) (mode : Auto) (sz : Size) (rs rd : Reg)
    (h : s.Writable (s.eaAuto mode rd sz) sz.bytes) (hm : Memory.wf s.mem = true) :
    Reaches (execMovStoreAuto mode sz rs rd s) fun t =>
      t.reg rd = s.autoUpdated mode rd sz ∧ Stored [rd] (s.eaAuto mode rd sz) sz (s.reg rs) 3 s t := by
  refine ⟨_, s.store_eq _ sz _ _ h, ?_, ?_, ?_, ?_⟩
  · rw [State.reg_advance, State.reg_setReg_same]
  · rw [State.peek_advance, State.peek_setReg, s.peek_poke_same _ sz _ hm]
  · simp [State.after]
  · exact ((FrameStore.poke [rd] s _ sz _).setReg (List.mem_singleton.2 rfl) _).advance 3

/-- Settles O40. -/
theorem updatingAndIndexedModesAccessTheirAddress : Obligations.UpdatingAndIndexedModesAccessTheirAddress := by
  intro s r rd sz msz n hm
  constructor
  · rintro rfl
    exact ⟨s.loadAuto_loaded .postInc sz sz.signExtend r rd, s.loadAuto_loaded .preDec sz sz.signExtend r rd,
      fun h => s.storeAuto_stored .postInc sz rd r h hm, fun h => s.storeAuto_stored .preDec sz rd r h hm,
      fun ri => s.load_wrote (s.eaIndexed ri r sz) sz sz.signExtend rd 3,
      fun ri h => s.storeTo_stored (s.eaIndexed ri r sz) sz (s.reg rd) 3 h hm⟩
  · rintro rfl
    exact ⟨s.loadAuto_loaded .postInc msz.size id r rd, s.loadAuto_loaded .preDec msz.size id r rd,
      fun ri => s.load_wrote (s.eaIndexed ri r msz.size) msz.size id rd 3⟩

end Sys2Proof.Machine
end

section
/-! Branches and jumps (R110, R132, R441, R442, R444). -/

namespace Sys2Proof.Machine

/-- The distances of pcdsp:3 are 3 to 10, by their low three bits (R132). -/
theorem shortDistance_eq {f : BitVec 3} {k : Nat} (h3 : 3 ≤ k) (h10 : k ≤ 10) (hf : k % 8 = f.toNat) :
    shortDistance f = BitVec.ofNat 32 k := by
  obtain rfl : f = BitVec.ofNat 3 k := BitVec.eq_of_toNat_eq (by rw [BitVec.toNat_ofNat]; exact hf.symm)
  interval_cases k <;> rfl

/-- BEQ branches where Z is 1, BNE where it is 0 (R131, R440). -/
theorem Psw.holds_eqNe (p : Psw) (c : EqNe) : p.holds c.cond = true ↔ (c = .eq ↔ p.z = true) := by
  cases c <;> simp [EqNe.cond, Psw.holds]

theorem State.goto_jumped (s : State) (a : Word) : Reaches (.next (s.goto a)) (Jumped a s) :=
  ⟨_, rfl, rfl, (Frame.refl [] [] s).goto a⟩

/-- A conditional branch goes by its distance or on to the next instruction, and changes nothing else. -/
theorem State.branchIf_jumped (s : State) {c : Bool} {p : Prop} [Decidable p] (h : c = true ↔ p) (d : Word) (n : Nat) :
    Reaches (s.branchIf c d n) (Jumped (if p then s.pc + d else s.after n) s) := by
  by_cases hp : p
  · rw [if_pos hp, State.branchIf, if_pos (h.2 hp)]
    exact s.goto_jumped _
  · rw [if_neg hp, State.branchIf, if_neg (mt h.1 hp)]
    exact s.goto_jumped _

/-- Settles O46. -/
theorem branchesChangeOnlyThePc : Obligations.BranchesChangeOnlyThePc := by
  intro s c cd f d8 d16 d24 rs
  refine ⟨fun k h3 h10 hk => ?_, s.branchIf_jumped Iff.rfl _ 2, s.branchIf_jumped (s.psw.holds_eqNe c) _ 3,
    s.goto_jumped _, s.goto_jumped _, s.goto_jumped _, s.goto_jumped _, s.goto_jumped _⟩
  rw [← shortDistance_eq h3 h10 hk]
  exact ⟨s.branchIf_jumped (s.psw.holds_eqNe c) _ 1, s.goto_jumped _⟩

end Sys2Proof.Machine
end

section
/-! The fields of the opcode bytes, and what the decoder's readers do with the bytes the encoder writes for each
operand field (R120 to R136). -/

namespace Sys2Proof

/-! ### Fields with few values -/

theorem bitVec1_cases (x : BitVec 1) : x = 0 ∨ x = 1 := by
  revert x
  decide

theorem bitVec3_cases (x : BitVec 3) : x = 0 ∨ x = 1 ∨ x = 2 ∨ x = 3 ∨ x = 4 ∨ x = 5 ∨ x = 6 ∨ x = 7 := by
  revert x
  decide

theorem bit_of_ne_zero {x : BitVec 1} (h : x ≠ 0) : x = 1 := (bitVec1_cases x).resolve_left h

theorem Dsp.bits_cases (d : Dsp) : d.bits = 0 ∨ d.bits = 1 ∨ d.bits = 2 := by cases d <;> simp [Dsp.bits]

theorem movLiOk_bits (sz : Size) (imm : Simm) : movLiOk sz imm.bits = imm.fitsMov sz := by
  cases sz <;> cases imm <;> rfl

/-! ### A byte from its fields -/

theorem fld_append44_hi (x y : BitVec 4) : fld (x ++ y) 4 4 = x := BitVec.extractLsb'_append_eq_left

theorem fld_append44_lo (x y : BitVec 4) : fld (x ++ y) 0 4 = y := BitVec.extractLsb'_append_eq_right

theorem hiReg_append (r : Reg) (y : BitVec 4) : hiReg (nib r ++ y) = r := congrArg BitVec.toFin (fld_append44_hi _ y)

theorem loReg_append (x : BitVec 4) (r : Reg) : loReg (x ++ nib r) = r := congrArg BitVec.toFin (fld_append44_lo x _)

theorem append_bytes16 (v : BitVec 16) : v.extractLsb' 8 8 ++ v.extractLsb' 0 8 = v := by
  rw [BitVec.extractLsb'_append_extractLsb'_eq_extractLsb' (by rfl)]
  exact BitVec.extractLsb'_eq_self

theorem append_bytes24 (v : BitVec 24) : v.extractLsb' 16 8 ++ v.extractLsb' 8 8 ++ v.extractLsb' 0 8 = v := by
  rw [BitVec.extractLsb'_append_extractLsb'_eq_extractLsb' (by rfl),
    BitVec.extractLsb'_append_extractLsb'_eq_extractLsb' (by rfl)]
  exact BitVec.extractLsb'_eq_self

/-! ### Readers -/

@[simp] theorem take1_cons (b : Byte) (r : List Byte) (k : Byte → List Byte → Decoded) : take1 (b :: r) k = k b r := rfl

@[simp] theorem take16_le16 (v : BitVec 16) (r : List Byte) (k : BitVec 16 → List Byte → Decoded) :
    take16 (le16 v ++ r) k = k v r := congrArg (k · r) (append_bytes16 v)

@[simp] theorem take24_le24 (v : BitVec 24) (r : List Byte) (k : BitVec 24 → List Byte → Decoded) :
    take24 (le24 v ++ r) k = k v r := congrArg (k · r) (append_bytes24 v)

@[simp] theorem take32_le32 (v : BitVec 32) (r : List Byte) (k : BitVec 32 → List Byte → Decoded) :
    take32 (le32 v ++ r) k = k v r := congrArg (k · r) (Machine.append_bytes v)

@[simp] theorem takeDsp_bytes (d : Dsp) (r : List Byte) (k : Dsp → List Byte → Decoded) :
    takeDsp d.bits (d.bytes ++ r) k = k d r := by
  cases d with
  | none | d8 v => rfl
  | d16 v => exact take16_le16 v r fun v => k (.d16 v)

@[simp] theorem takeImm_bytes (v : Simm) (r : List Byte) (k : Simm → List Byte → Decoded) :
    takeImm v.bits (v.bytes ++ r) k = k v r := by
  cases v with
  | s8 v => rfl
  | s16 v => exact take16_le16 v r fun v => k (.s16 v)
  | s24 v => exact take24_le24 v r fun v => k (.s24 v)
  | i32 v => exact take32_le32 v r fun v => k (.i32 v)

/-- The register an operand names, be it the operand or the base of its address. -/
def RegOrMem.register : RegOrMem → Reg
  | .reg r => r
  | .mem b _ => b

theorem RegOrMem.regBits_eq (src : RegOrMem) : src.regBits = nib src.register := by cases src <;> rfl

@[simp] theorem takeRm_bytes (src : RegOrMem) (r : List Byte) (k : RegOrMem → List Byte → Decoded) :
    takeRm src.ldBits src.register (src.dspBytes ++ r) k = k src r := by
  cases src with
  | reg _ => rfl
  | mem b d => exact (if_neg d.bits_ne_three).trans (takeDsp_bytes d r _)

/-! ### Tails -/

section Tails

variable {dec : Decoded} (rest : List Byte)

theorem tailRm_bytes {src : RegOrMem} {rd : Reg} {k : RegOrMem → Reg → Instr}
    (h : dec = tailRm src.ldBits ((src.regBits ++ nib rd) :: (src.dspBytes ++ rest)) k) :
    dec = .instr (k src rd) rest := by
  rw [h, tailRm, take1_cons, src.regBits_eq, hiReg_append, loReg_append, takeRm_bytes]

theorem tailRmPair_bytes {src : RegOrMem} {rd : Reg} {k : RegOrMem → Reg → Instr} (hrd : rd.pairOk = true)
    (h : dec = tailRmPair src.ldBits ((src.regBits ++ nib rd) :: (src.dspBytes ++ rest)) k) :
    dec = .instr (k src rd) rest := by
  rw [h, tailRmPair, take1_cons, src.regBits_eq, hiReg_append, loReg_append, if_pos hrd, takeRm_bytes]

theorem tailMem_bytes {d : Dsp} {rs rd : Reg} {k : Reg → Dsp → Reg → Instr}
    (h : dec = tailMem d.bits ((nib rs ++ nib rd) :: (d.bytes ++ rest)) k) : dec = .instr (k rs d rd) rest := by
  rw [h, tailMem, take1_cons, hiReg_append, loReg_append, takeDsp_bytes]

theorem tailMemPair_bytes {d : Dsp} {rs rd : Reg} {k : Reg → Dsp → Reg → Instr} (hrd : rd.pairOk = true)
    (h : dec = tailMemPair d.bits ((nib rs ++ nib rd) :: (d.bytes ++ rest)) k) : dec = .instr (k rs d rd) rest := by
  rw [h, tailMemPair, take1_cons, hiReg_append, loReg_append, if_pos hrd, takeDsp_bytes]

theorem tail2_bytes {rs rd : Reg} {k : Reg → Reg → Instr} (h : dec = tail2 ((nib rs ++ nib rd) :: rest) k) :
    dec = .instr (k rs rd) rest := by
  rw [h, tail2, take1_cons, hiReg_append, loReg_append]

end Tails

end Sys2Proof
end

section
/-! Which instructions the decoder reads (R121, R170): a reader that has consumed `pre` reads only instructions whose
encodings begin with `pre`. The rules below pass this through the decoder's readers. -/

namespace Sys2Proof

/-! ### Bytes put together again -/

theorem toNat_fld (b : Byte) (lo w : Nat) : (fld b lo w).toNat = b.toNat / 2 ^ lo % 2 ^ w := by
  rw [fld, BitVec.extractLsb'_toNat, Nat.shiftRight_eq_div_pow]

theorem toNat_append_eq {m n : Nat} (x : BitVec m) (y : BitVec n) : (x ++ y).toNat = x.toNat * 2 ^ n + y.toNat := by
  rw [BitVec.toNat_append, ← Nat.shiftLeft_add_eq_or_of_lt y.isLt, Nat.shiftLeft_eq]

theorem append_eq {m n : Nat} {x : BitVec m} {y : BitVec n} {b : BitVec (m + n)}
    (h : x.toNat * 2 ^ n + y.toNat = b.toNat) : x ++ y = b :=
  BitVec.eq_of_toNat_eq ((toNat_append_eq x y).trans h)

theorem ofNat_eq_of_toNat {w n : Nat} {x : BitVec w} (h : x.toNat = n) : BitVec.ofNat w n = x := by
  rw [← h, BitVec.ofNat_toNat, BitVec.setWidth_eq]

theorem append44 {x y : BitVec 4} {b : Byte} (hx : x = fld b 4 4) (hy : y = fld b 0 4) : x ++ y = b :=
  append_eq (by rw [hx, hy, toNat_fld, toNat_fld]; omega)

/-- A byte from a high nibble whose value is known. -/
theorem append44_of {n : Nat} {y : BitVec 4} {b : Byte} (hx : (fld b 4 4).toNat = n) (hy : y = fld b 0 4) :
    BitVec.ofNat 4 n ++ y = b := append44 (ofNat_eq_of_toNat hx) hy

theorem append62 {x : BitVec 6} {y : BitVec 2} {b : Byte} (hx : x = fld b 2 6) (hy : y = fld b 0 2) : x ++ y = b :=
  append_eq (by rw [hx, hy, toNat_fld, toNat_fld]; omega)

theorem append62_of {n : Nat} {y : BitVec 2} {b : Byte} (hx : (fld b 2 6).toNat = n) (hy : y = fld b 0 2) :
    BitVec.ofNat 6 n ++ y = b := append62 (ofNat_eq_of_toNat hx) hy

/-! ### Fields of several bytes -/

theorem append_le16 (b0 b1 : Byte) : le16 (b1 ++ b0) = [b0, b1] :=
  congrArg₂ (fun x y => [x, y]) BitVec.extractLsb'_append_eq_right BitVec.extractLsb'_append_eq_left

theorem append_le24 (b0 b1 b2 : Byte) : le24 (b2 ++ b1 ++ b0) = [b0, b1, b2] := by
  have h1 : (b2 ++ b1 ++ b0).extractLsb' 8 8 = b1 :=
    (BitVec.extractLsb'_append_eq_of_le (xhi := b2 ++ b1) (xlo := b0) (by decide)).trans
      BitVec.extractLsb'_append_eq_right
  have h2 : (b2 ++ b1 ++ b0).extractLsb' 16 8 = b2 :=
    (BitVec.extractLsb'_append_eq_of_le (xhi := b2 ++ b1) (xlo := b0) (by decide)).trans
      BitVec.extractLsb'_append_eq_left
  rw [le24, BitVec.extractLsb'_append_eq_right, h1, h2]

theorem append_le32 (b0 b1 b2 b3 : Byte) : le32 (b3 ++ b2 ++ b1 ++ b0) = [b0, b1, b2, b3] := by
  have hdrop (k : Nat) : (b3 ++ b2 ++ b1 ++ b0).extractLsb' (k + 8) 8 = (b3 ++ b2 ++ b1).extractLsb' k 8 :=
    BitVec.extractLsb'_append_eq_of_le (xhi := b3 ++ b2 ++ b1) (xlo := b0) (by omega)
  have h : le32 (b3 ++ b2 ++ b1 ++ b0) = b0 :: le24 (b3 ++ b2 ++ b1) := by
    rw [le32, BitVec.extractLsb'_append_eq_right, hdrop 0, hdrop 8, hdrop 16]
    rfl
  rw [h, append_le24]

/-! ### Decoders that read only encodings -/

/-- After the bytes `pre`, on the bytes `r`, the decoder's answer is no instruction but one that the bytes encode. -/
def Reads (p : Product) (pre r : List Byte) (d : Decoded) : Prop :=
  ∀ i rest, d = .instr i rest → i.wellFormed = true ∧ i.installed p = true ∧ encode i ++ rest = pre ++ r

theorem installed_of {p : Product} {i : Instr} (hf : i.needsFpu = true → p.hasFpu = true)
    (hm : i.needsMvtipl = true → p.hasMvtipl = true) : i.installed p = true := by
  simp only [Instr.installed, Bool.and_eq_true, Bool.or_eq_true, Bool.not_eq_true']
  exact ⟨(Bool.eq_false_or_eq_true _).imp_left hf, (Bool.eq_false_or_eq_true _).imp_left hm⟩

/-- An instruction that every product has. -/
theorem installed_plain {p : Product} {i : Instr} (hf : i.needsFpu = false) (hm : i.needsMvtipl = false) :
    i.installed p = true := installed_of (by simp [hf]) (by simp [hm])

theorem installed_fpu {p : Product} {i : Instr} (hp : p.hasFpu = true) (hm : i.needsMvtipl = false) :
    i.installed p = true := installed_of (fun _ => hp) (by simp [hm])

namespace Reads

variable {p : Product} {pre r : List Byte}

theorem instr {i : Instr} (he : encode i = pre) (hw : i.wellFormed = true) (hi : i.installed p = true) :
    Reads p pre r (.instr i r) := by
  rintro _ _ ⟨⟩
  exact ⟨hw, hi, by rw [he]⟩

theorem undefined {w : Reject} : Reads p pre r (.undefined w) := fun _ _ h => nomatch h

theorem short : Reads p pre r .short := fun _ _ h => nomatch h

theorem of_append {x : List Byte} {d : Decoded} (h : Reads p (pre ++ x) r d) : Reads p pre (x ++ r) d := by
  intro i rest hd
  obtain ⟨hw, hi, he⟩ := h i rest hd
  exact ⟨hw, hi, he.trans (List.append_assoc ..)⟩

theorem take1 {k : Byte → List Byte → Decoded} (h : ∀ b r, Reads p (pre ++ [b]) r (k b r)) :
    Reads p pre r (take1 r k) := by
  cases r with
  | nil => exact .short
  | cons b r => exact of_append (h b r)

theorem take16 {k : BitVec 16 → List Byte → Decoded} (h : ∀ v r, Reads p (pre ++ le16 v) r (k v r)) :
    Reads p pre r (take16 r k) := by
  match r with
  | [] | [_] => exact .short
  | b0 :: b1 :: r => exact of_append (x := [b0, b1]) (append_le16 b0 b1 ▸ h _ r)

theorem take24 {k : BitVec 24 → List Byte → Decoded} (h : ∀ v r, Reads p (pre ++ le24 v) r (k v r)) :
    Reads p pre r (take24 r k) := by
  match r with
  | [] | [_] | [_, _] => exact .short
  | b0 :: b1 :: b2 :: r => exact of_append (x := [b0, b1, b2]) (append_le24 b0 b1 b2 ▸ h _ r)

theorem take32 {k : BitVec 32 → List Byte → Decoded} (h : ∀ v r, Reads p (pre ++ le32 v) r (k v r)) :
    Reads p pre r (take32 r k) := by
  match r with
  | [] | [_] | [_, _] | [_, _, _] => exact .short
  | b0 :: b1 :: b2 :: b3 :: r => exact of_append (x := [b0, b1, b2, b3]) (append_le32 b0 b1 b2 b3 ▸ h _ r)

theorem takeDsp {ld : BitVec 2} {k : Dsp → List Byte → Decoded}
    (h : ∀ d r, d.bits = ld → Reads p (pre ++ d.bytes) r (k d r)) : Reads p pre r (takeDsp ld r k) := by
  rcases bitVec2_cases ld with rfl | rfl | rfl | rfl
  · exact List.append_nil pre ▸ h .none r rfl
  · exact .take1 fun v r => h (.d8 v) r rfl
  · exact .take16 fun v r => h (.d16 v) r rfl
  · exact .undefined

theorem takeImm {li : BitVec 2} {k : Simm → List Byte → Decoded}
    (h : ∀ v r, v.bits = li → Reads p (pre ++ v.bytes) r (k v r)) : Reads p pre r (takeImm li r k) := by
  rcases bitVec2_cases li with rfl | rfl | rfl | rfl
  · exact .take32 fun v r => h (.i32 v) r rfl
  · exact .take1 fun v r => h (.s8 v) r rfl
  · exact .take16 fun v r => h (.s16 v) r rfl
  · exact .take24 fun v r => h (.s24 v) r rfl

theorem takeRm {ld : BitVec 2} {base : Reg} {k : RegOrMem → List Byte → Decoded}
    (h : ∀ src r, src.ldBits = ld → src.register = base → Reads p (pre ++ src.dspBytes) r (k src r)) :
    Reads p pre r (takeRm ld base r k) := by
  unfold Sys2Proof.takeRm
  split
  · exact List.append_nil pre ▸ h (.reg base) r (Eq.symm ‹_›) rfl
  · exact .takeDsp fun d r hd => h (.mem base d) r hd rfl

theorem field {α : Type} {v : Option α} {w : Reject} {k : α → Decoded} (h : ∀ a, v = some a → Reads p pre r (k a)) :
    Reads p pre r (field v w k) := by
  cases v with
  | none => exact .undefined
  | some a => exact h a rfl

theorem fpu {d : Decoded} (h : p.hasFpu = true → Reads p pre r d) : Reads p pre r (fpu p d) := by
  unfold Sys2Proof.fpu
  split
  · exact h ‹_›
  · exact .undefined

theorem instr44 {i : Instr} {b : Byte} {x y : BitVec 4} (hx : x = fld b 4 4) (hy : y = fld b 0 4)
    (he : encode i = pre ++ [x ++ y]) (hw : i.wellFormed = true) (hi : i.installed p = true) :
    Reads p (pre ++ [b]) r (.instr i r) := .instr (by rw [he, append44 hx hy]) hw hi

/-! ### Tails -/

theorem regBits_append (src : RegOrMem) (b : Byte) (h : src.register = hiReg b) : src.regBits ++ nib (loReg b) = b :=
  append44 (src.regBits_eq.trans (congrArg nib h)) rfl

theorem tailRm {n : Nat} {b : Byte} {k : RegOrMem → Reg → Instr} (hl : (fld b 2 6).toNat = n)
    (he : ∀ src rd, encode (k src rd) =
      pre ++ [BitVec.ofNat 6 n ++ src.ldBits] ++ [src.regBits ++ nib rd] ++ src.dspBytes)
    (hw : ∀ src rd, (k src rd).wellFormed = true) (hi : ∀ src rd, (k src rd).installed p = true) :
    Reads p (pre ++ [b]) r (tailRm (fld b 0 2) r k) := by
  refine .take1 fun c r => .takeRm fun src r hld hr => .instr ?_ (hw ..) (hi ..)
  rw [he, append62_of hl hld, regBits_append src c hr]

theorem tailRmPair {n : Nat} {b : Byte} {k : RegOrMem → Reg → Instr} (hl : (fld b 2 6).toNat = n)
    (he : ∀ src rd, encode (k src rd) =
      pre ++ [BitVec.ofNat 6 n ++ src.ldBits] ++ [src.regBits ++ nib rd] ++ src.dspBytes)
    (hw : ∀ src rd, (k src rd).wellFormed = rd.pairOk) (hi : ∀ src rd, (k src rd).installed p = true) :
    Reads p (pre ++ [b]) r (tailRmPair (fld b 0 2) r k) := by
  refine .take1 fun c r => ?_
  split
  · refine .takeRm fun src r hld hr => .instr ?_ ((hw ..).trans ‹_›) (hi ..)
    rw [he, append62_of hl hld, regBits_append src c hr]
  · exact .undefined

theorem nib_append (b : Byte) : nib (hiReg b) ++ nib (loReg b) = b := append44 rfl rfl

theorem tailMem {lead : BitVec 6} {b : Byte} {mid : List Byte} {k : Reg → Dsp → Reg → Instr} (hl : lead = fld b 2 6)
    (he : ∀ rs d rd, encode (k rs d rd) = pre ++ [lead ++ d.bits] ++ mid ++ [nib rs ++ nib rd] ++ d.bytes)
    (hw : ∀ rs d rd, (k rs d rd).wellFormed = true) (hi : ∀ rs d rd, (k rs d rd).installed p = true) :
    Reads p (pre ++ [b] ++ mid) r (tailMem (fld b 0 2) r k) := by
  refine .take1 fun c r => .takeDsp fun d r hld => .instr ?_ (hw ..) (hi ..)
  rw [he, append62 hl hld, nib_append]

theorem tailMemPair {lead : BitVec 6} {b : Byte} {mid : List Byte} {k : Reg → Dsp → Reg → Instr}
    (hl : lead = fld b 2 6)
    (he : ∀ rs d rd, encode (k rs d rd) = pre ++ [lead ++ d.bits] ++ mid ++ [nib rs ++ nib rd] ++ d.bytes)
    (hw : ∀ rs d rd, (k rs d rd).wellFormed = rd.pairOk) (hi : ∀ rs d rd, (k rs d rd).installed p = true) :
    Reads p (pre ++ [b] ++ mid) r (tailMemPair (fld b 0 2) r k) := by
  refine .take1 fun c r => ?_
  split
  · refine .takeDsp fun d r hld => .instr ?_ ((hw ..).trans ‹_›) (hi ..)
    rw [he, append62 hl hld, nib_append]
  · exact .undefined

theorem tail2 {k : Reg → Reg → Instr} (he : ∀ rs rd, encode (k rs rd) = pre ++ [nib rs ++ nib rd])
    (hw : ∀ rs rd, (k rs rd).wellFormed = true) (hi : ∀ rs rd, (k rs rd).installed p = true) :
    Reads p pre r (tail2 r k) := by
  refine .take1 fun c r => .instr ?_ (hw ..) (hi ..)
  rw [he, nib_append]

theorem tailRange {k : Reg → Reg → Instr} (he : ∀ rs rd, encode (k rs rd) = pre ++ [nib rs ++ nib rd])
    (hw : ∀ rs rd, (k rs rd).wellFormed = rs.rangeOk rd) (hi : ∀ rs rd, (k rs rd).installed p = true) :
    Reads p pre r (tailRange r k) := by
  refine .take1 fun c r => ?_
  split
  · refine .instr ?_ ((hw ..).trans ‹_›) (hi ..)
    rw [he, nib_append]
  · exact .undefined

theorem tailBit {n : Nat} {b : Byte} {m : Reg → Reg → Dsp → Instr} {k : Reg → Reg → Instr}
    (hl : (fld b 2 6).toNat = n)
    (hm : ∀ rs rd d, encode (m rs rd d) = pre ++ [BitVec.ofNat 6 n ++ d.bits] ++ [nib rd ++ nib rs] ++ d.bytes)
    (hk : ∀ rs rd, encode (k rs rd) = pre ++ [BitVec.ofNat 6 n ++ (3 : BitVec 2)] ++ [nib rd ++ nib rs])
    (hwm : ∀ rs rd d, (m rs rd d).wellFormed = true) (hwk : ∀ rs rd, (k rs rd).wellFormed = true)
    (him : ∀ rs rd d, (m rs rd d).installed p = true) (hik : ∀ rs rd, (k rs rd).installed p = true) :
    Reads p (pre ++ [b]) r (tailBit (fld b 0 2) r m k) := by
  refine .take1 fun c r => ?_
  split
  case isTrue h =>
    refine .instr ?_ (hwk ..) (hik ..)
    rw [hk, append62_of hl h.symm, nib_append]
  case isFalse =>
    refine .takeDsp fun d r hld => .instr ?_ (hwm ..) (him ..)
    rw [hm, append62_of hl hld, nib_append]

end Reads

end Sys2Proof
end

section
/-! The pages of the first byte 00 to 7F read only encodings of well-formed installed instructions. -/

namespace Sys2Proof

open Reads

variable (p : Product) (r : List Byte)

/-! ### Operand codes -/

theorem Size.bits_of_ofBits {z : BitVec 2} {sz : Size} (h : Size.ofBits z = some sz) : sz.bits = z := by
  unfold Size.ofBits at h
  split at h <;> cases h <;> exact ofNat_eq_of_toNat ‹_›

theorem Size.eq_three_of_ofBits {z : BitVec 2} (h : Size.ofBits z = none) : z = 3#2 := by
  rcases bitVec2_cases z with rfl | rfl | rfl | rfl
  · cases h
  · cases h
  · cases h
  · rfl

theorem Cond.bits_of_ofBits {z : BitVec 4} {cd : Cond} (h : Cond.ofBits z = some cd) : cd.bits = z := by
  unfold Cond.ofBits at h
  split at h <;> cases h <;> exact ofNat_eq_of_toNat ‹_›

theorem CReg.bits_of_ofBits {z : BitVec 4} {cr : CReg} (h : CReg.ofBits z = some cr) : cr.bits = z := by
  unfold CReg.ofBits at h
  split at h <;> cases h <;> exact ofNat_eq_of_toNat ‹_›

theorem PswBit.bits_of_ofBits {z : BitVec 4} {cb : PswBit} (h : PswBit.ofBits z = some cb) : cb.bits = z := by
  unfold PswBit.ofBits at h
  split at h <;> cases h <;> exact ofNat_eq_of_toNat ‹_›

theorem Memex.bits_ofBits (m : BitVec 2) : (Memex.ofBits m).bits = m := by
  rcases bitVec2_cases m with rfl | rfl | rfl | rfl <;> rfl

theorem MovuSize.bits_ofBits (z : BitVec 1) : (MovuSize.ofBits z).bits = z := by
  rcases bitVec1_cases z with rfl | rfl <;> rfl

theorem EqNe.bits_ofBits (z : BitVec 1) : (EqNe.ofBits z).bits = z := by
  rcases bitVec1_cases z with rfl | rfl <;> rfl

theorem Auto.bits_ofBits (z : BitVec 1) : (Auto.ofBits z).bits = z := by
  rcases bitVec1_cases z with rfl | rfl <;> rfl

/-! ### Pages -/

theorem reads_decode7E : Reads p [0x7E] r (decode7E r) := by
  refine .take1 fun b r => ?_
  dsimp only
  split
  case h_1 h | h_2 h | h_3 h | h_4 h | h_5 h | h_6 h | h_7 h | h_8 h | h_9 h | h_10 h =>
    exact .instr44 (ofNat_eq_of_toNat h) rfl rfl rfl (installed_plain rfl rfl)
  case h_11 h =>
    exact .field fun cr hcr =>
      .instr44 (ofNat_eq_of_toNat h) (CReg.bits_of_ofBits hcr) rfl rfl (installed_plain rfl rfl)
  case h_12 h =>
    refine .field fun cr hcr => ?_
    split
    case isTrue hw =>
      exact .instr44 (ofNat_eq_of_toNat h) (CReg.bits_of_ofBits hcr) rfl hw (installed_plain rfl rfl)
    case isFalse => exact .undefined
  case h_13 => exact .undefined

theorem reads_decode7F : Reads p [0x7F] r (decode7F r) := by
  refine .take1 fun b r => ?_
  split
  case h_1 h | h_2 h | h_3 h | h_4 h =>
    exact .instr44 (ofNat_eq_of_toNat h) rfl rfl rfl (installed_plain rfl rfl)
  case h_5 h =>
    split
    case h_16 =>
      have hlow : (fld b 0 4).toNat < 16 := (fld b 0 4).isLt
      have h15 : (fld b 0 4).toNat = 15 := by
        simp only [imp_false] at *
        omega
      exact .instr44 (ofNat_eq_of_toNat h) (ofNat_eq_of_toNat h15) rfl rfl (installed_plain rfl rfl)
    all_goals
      exact .instr44 (ofNat_eq_of_toNat h) (ofNat_eq_of_toNat ‹_›) rfl rfl (installed_plain rfl rfl)
  case h_6 h =>
    split
    case h_5 => exact .undefined
    all_goals
      exact .instr44 (ofNat_eq_of_toNat h) (ofNat_eq_of_toNat ‹_›) rfl rfl (installed_plain rfl rfl)
  case h_7 h | h_8 h =>
    exact .field fun cb hcb =>
      .instr44 (ofNat_eq_of_toNat h) (PswBit.bits_of_ofBits hcb) rfl rfl (installed_plain rfl rfl)
  case h_9 => exact .undefined

theorem reads_decode45 {b0 : Byte} (hb : (fld b0 4 4).toNat = 4 ∨ (fld b0 4 4).toNat = 5) :
    Reads p [b0] r (decode45 b0 r) := by
  unfold decode45
  dsimp only
  split
  case h_7 h =>
    exact .tailRm (pre := []) (n := 22) (by simp only [toNat_fld] at *; omega) (fun _ _ => rfl)
      (fun _ _ => rfl) fun _ _ => installed_plain rfl rfl
  case h_8 h =>
    exact .tailRm (pre := []) (n := 23) (by simp only [toNat_fld] at *; omega) (fun _ _ => rfl)
      (fun _ _ => rfl) fun _ _ => installed_plain rfl rfl
  case h_9 => exact .undefined
  all_goals
    exact .tailRm (pre := []) (by simp only [toNat_fld] at *; omega) (fun _ _ => rfl)
      (fun _ _ => rfl) fun _ _ => installed_plain rfl rfl

theorem reads_decode06 : Reads p [0x06] r (decode06 p r) := by
  refine .take1 fun b r => ?_
  have lead_eq {n : Nat} (h : (fld b 2 4).toNat = n) :
      (Memex.ofBits (fld b 6 2)).bits ++ BitVec.ofNat 4 n = fld b 2 6 :=
    append_eq (by rw [Memex.bits_ofBits, ofNat_eq_of_toNat h]; simp only [toNat_fld]; omega)
  dsimp only
  split
  case isTrue => exact .undefined
  split
  case h_7 h =>
    refine .take1 fun op r => ?_
    split
    case h_1 ho | h_2 ho =>
      split
      case isTrue hmx =>
        obtain rfl := ofNat_eq_of_toNat ho
        have hl : Memex.l.bits ++ 8#4 = fld b 2 6 := hmx ▸ lead_eq h
        exact .tailMem hl (fun _ _ _ => rfl) (fun _ _ _ => rfl) fun _ _ _ => installed_plain rfl rfl
      case isFalse => exact .undefined
    case h_3 ho | h_4 ho | h_7 ho | h_8 ho | h_9 ho | h_10 ho | h_11 ho =>
      obtain rfl := ofNat_eq_of_toNat ho
      exact .tailMem (lead_eq h) (fun _ _ _ => rfl) (fun _ _ _ => rfl) fun _ _ _ => installed_plain rfl rfl
    case h_5 ho | h_6 ho =>
      obtain rfl := ofNat_eq_of_toNat ho
      exact .tailMemPair (lead_eq h) (fun _ _ _ => rfl) (fun _ _ _ => rfl) fun _ _ _ => installed_plain rfl rfl
    case h_12 ho =>
      obtain rfl := ofNat_eq_of_toNat ho
      split
      case isTrue hp =>
        exact .tailMem (lead_eq h) (fun _ _ _ => rfl) (fun _ _ _ => rfl) fun _ _ _ => installed_fpu hp rfl
      case isFalse => exact .undefined
    case h_13 => exact .undefined
  case h_8 => exact .undefined
  case h_1 h | h_2 h | h_3 h | h_4 h | h_5 h | h_6 h =>
    exact .tailMem (pre := [0x06]) (mid := []) (lead_eq h) (fun _ _ _ => rfl) (fun _ _ _ => rfl)
      fun _ _ _ => installed_plain rfl rfl

theorem nib_loReg (b : Byte) : nib (loReg b) = fld b 0 4 := rfl

theorem reads_decode0 {b0 : Byte} (hb : (fld b0 4 4).toNat = 0) : Reads p [b0] r (decode0 p b0 r) := by
  unfold decode0
  split
  case h_1 h | h_2 h | h_3 h =>
    obtain rfl := ofNat_eq_of_toNat h
    exact .instr rfl rfl (installed_plain rfl rfl)
  case h_4 h | h_5 h =>
    obtain rfl := ofNat_eq_of_toNat h
    exact .take24 fun v r => .instr rfl rfl (installed_plain rfl rfl)
  case h_6 h =>
    obtain rfl := ofNat_eq_of_toNat h
    exact reads_decode06 p r
  case h_7 =>
    split
    case isTrue h =>
      have hbyte : 1#5 ++ fld b0 0 3 = b0 := append_eq (by
        have h1 : (fld b0 3 1).toNat = 1 := congrArg BitVec.toNat h
        change 1 * 2 ^ 3 + _ = _
        simp only [toNat_fld, imp_false] at *
        omega)
      exact .instr (congrArg (fun b => [b]) hbyte) rfl (installed_plain rfl rfl)
    case isFalse => exact .undefined

theorem reads_decode1 {b0 : Byte} (hb : (fld b0 4 4).toNat = 1) :
    Reads p [b0] r (.instr (.bcndS (.ofBits (fld b0 3 1)) (fld b0 0 3)) r) := by
  have hbyte : 1#4 ++ (EqNe.ofBits (fld b0 3 1)).bits ++ fld b0 0 3 = b0 := append_eq (by
    rw [EqNe.bits_ofBits]
    simp only [toNat_append_eq, toNat_fld, BitVec.toNat_ofNat] at *
    omega)
  exact .instr (congrArg (fun b => [b]) hbyte) rfl (installed_plain rfl rfl)

theorem reads_decode2 {b0 : Byte} (hb : (fld b0 4 4).toNat = 2) : Reads p [b0] r (decode2 b0 r) := by
  unfold decode2
  split
  case isTrue h =>
    obtain rfl : 2#4 ++ 14#4 = b0 := append44_of hb h.symm
    exact .take1 fun d r => .instr rfl rfl (installed_plain rfl rfl)
  case isFalse =>
    refine .field fun cd hcd => .take1 fun d r => .instr ?_ rfl (installed_plain rfl rfl)
    rw [encode, append44_of hb (Cond.bits_of_ofBits hcd)]
    rfl

theorem append134 (b : Byte) {d : BitVec 5} (hd : d = fld b 7 1 ++ fld b 0 4) :
    d.extractLsb' 4 1 ++ low (hiLow b) ++ d.extractLsb' 0 4 = b := by
  have h7 : d.extractLsb' 4 1 = fld b 7 1 := hd ▸ BitVec.extractLsb'_append_eq_left
  have h0 : d.extractLsb' 0 4 = fld b 0 4 := hd ▸ BitVec.extractLsb'_append_eq_right
  rw [h7, h0]
  exact append_eq (by
    simp only [toNat_append_eq, toNat_fld, show (low (hiLow b)).toNat = b.toNat / 2 ^ 4 % 2 ^ 3 from toNat_fld b 4 3]
    omega)

theorem reads_decode3 {b0 : Byte} (hb : (fld b0 4 4).toNat = 3) : Reads p [b0] r (decode3 b0 r) := by
  unfold decode3
  split
  case h_1 h | h_2 h | h_3 h | h_4 h =>
    obtain rfl := ofNat_eq_of_toNat h
    exact .take16 fun v r => .instr rfl rfl (installed_plain rfl rfl)
  case h_5 h =>
    obtain rfl := ofNat_eq_of_toNat h
    refine .take1 fun b r => ?_
    split
    case isTrue => exact .undefined
    case isFalse hne =>
      refine .take1 fun imm r => .instr ?_ ?_ (installed_plain rfl rfl)
      · exact congrArg (fun b => [0x3F, b, imm]) (nib_append b)
      · show ((hiReg b).val != 0 && (loReg b).val != 0) = true
        simpa only [Bool.and_eq_true, bne_iff_ne, ne_eq, not_or] using hne
  case h_6 =>
    split
    case isTrue => exact .undefined
    case isFalse h3 =>
      refine .field fun sz hsz => .take1 fun b r => .take1 fun imm r => .instr ?_ rfl (installed_plain rfl rfl)
      have hbyte : 15#6 ++ sz.bits = b0 := append_eq (by
        have h1 : (fld b0 3 1).toNat = 1 := congrArg BitVec.toNat (bit_of_ne_zero h3)
        rw [Size.bits_of_ofBits hsz]
        change 15 * 2 ^ 2 + _ = _
        simp only [toNat_fld, imp_false] at *
        omega)
      exact congrArg₂ (fun x y => [x, y, imm]) hbyte (append134 b rfl)

theorem append71_of {n : Nat} {y : BitVec 1} {b : Byte} (hx : (fld b 1 7).toNat = n) (hy : y = fld b 0 1) :
    BitVec.ofNat 7 n ++ y = b :=
  append_eq (by rw [ofNat_eq_of_toNat hx, hy, toNat_fld, toNat_fld]; omega)

theorem Reads.imm5 {p : Product} {pre r : List Byte} {k : BitVec 5 → Reg → Instr} {n : Nat} {b0 : Byte}
    (hn : (fld b0 1 7).toNat = n)
    (he : ∀ v rd, encode (k v rd) =
      pre ++ ([BitVec.ofNat 7 n ++ v.extractLsb' 4 1, v.extractLsb' 0 4 ++ nib rd] : List Byte))
    (hw : ∀ v rd, (k v rd).wellFormed = true) (hi : ∀ v rd, (k v rd).installed p = true) :
    Reads p (pre ++ [b0]) r (Sys2Proof.take1 r fun b r => .instr (k (Sys2Proof.imm5 b0 b) (loReg b)) r) := by
  refine .take1 fun b r => .instr ?_ (hw ..) (hi ..)
  have hhi : (Sys2Proof.imm5 b0 b).extractLsb' 4 1 = fld b0 0 1 := BitVec.extractLsb'_append_eq_left
  have hlo : (Sys2Proof.imm5 b0 b).extractLsb' 0 4 = fld b 4 4 := BitVec.extractLsb'_append_eq_right
  rw [he, append71_of hn hhi, append44 hlo (nib_loReg b)]
  exact (List.append_assoc pre [b0] [b]).symm

theorem reads_decode6 {b0 : Byte} (hb : (fld b0 4 4).toNat = 6) : Reads p [b0] r (decode6 b0 r) := by
  have hlow : (fld b0 0 4).toNat < 16 := (fld b0 0 4).isLt
  unfold decode6
  dsimp only
  split
  case h_1 h | h_2 h | h_3 h | h_4 h | h_5 h | h_6 h | h_7 h =>
    obtain rfl := append44_of hb (ofNat_eq_of_toNat h)
    exact .take1 fun b r => .instr44 rfl rfl rfl rfl (installed_plain rfl rfl)
  case h_8 h =>
    obtain rfl := append44_of hb (ofNat_eq_of_toNat h)
    exact .take1 fun b r => .instr rfl rfl (installed_plain rfl rfl)
  case h_9 h | h_10 h | h_11 h | h_12 h | h_13 h | h_14 h =>
    exact .imm5 (pre := []) (by simp only [toNat_fld] at *; omega) (fun _ _ => rfl) (fun _ _ => rfl)
      fun _ _ => installed_plain rfl rfl
  case h_15 h =>
    obtain rfl := append44_of hb (ofNat_eq_of_toNat h)
    exact .tailRange (fun _ _ => rfl) (fun _ _ => rfl) fun _ _ => installed_plain rfl rfl
  case h_16 =>
    have h : (fld b0 0 4).toNat = 15 := by
      simp only [imp_false] at *
      omega
    obtain rfl := append44_of hb (ofNat_eq_of_toNat h)
    exact .tailRange (fun _ _ => rfl) (fun _ _ => rfl) fun _ _ => installed_plain rfl rfl

theorem reads_decode74 {b0 : Byte} (hb : (fld b0 2 6).toNat = 29) : Reads p [b0] r (decode74 p b0 r) := by
  refine .take1 fun b r => ?_
  have h75 (h : fld b0 0 2 = 1) : 0x75 = b0 := append62_of hb h.symm
  split
  case h_1 h | h_2 h | h_3 h | h_4 h =>
    refine .takeImm fun v r hv => .instr ?_ rfl (installed_plain rfl rfl)
    rw [encode, append62_of hb hv, append44_of h (nib_loReg b)]
    rfl
  case h_5 h | h_6 h =>
    split
    case isTrue hli =>
      obtain rfl := h75 hli
      refine .take1 fun imm r => .instr ?_ rfl (installed_plain rfl rfl)
      rw [encode, append44_of h (nib_loReg b)]
      rfl
    case isFalse => exact .undefined
  case h_7 h =>
    split
    case isTrue hli =>
      split
      case isTrue hz =>
        obtain rfl := h75 hli
        obtain rfl := append44_of h hz.symm
        exact .take1 fun imm r => .instr rfl rfl (installed_plain rfl rfl)
      case isFalse => exact .undefined
    case isFalse => exact .undefined
  case h_8 h =>
    split
    case isTrue hli =>
      split
      case isTrue hz =>
        split
        case isTrue hp =>
          obtain rfl := h75 hli
          obtain rfl := append44_of h hz.symm
          refine .take1 fun b2 r => ?_
          split
          case isTrue hz2 => exact .instr44 hz2.symm rfl rfl rfl (installed_of nofun fun _ => hp)
          case isFalse => exact .undefined
        case isFalse => exact .undefined
      case isFalse => exact .undefined
    case isFalse => exact .undefined
  case h_9 => exact .undefined

theorem reads_decode7 {b0 : Byte} (hb : (fld b0 4 4).toNat = 7) : Reads p [b0] r (decode7 p b0 r) := by
  have hlow : (fld b0 0 4).toNat < 16 := (fld b0 0 4).isLt
  unfold decode7
  split
  case h_1 h | h_2 h | h_3 h | h_4 h =>
    have hl : (fld b0 2 6).toNat = 28 := by simp only [toNat_fld] at *; omega
    refine .take1 fun b r => .takeImm fun v r hv => .instr ?_ rfl (installed_plain rfl rfl)
    rw [encode, append62_of hl hv, nib_append]
    rfl
  case h_5 h | h_6 h | h_7 h | h_8 h =>
    exact reads_decode74 p r (by simp only [toNat_fld] at *; omega)
  case h_9 h | h_10 h | h_11 h | h_12 h | h_13 h | h_14 h =>
    exact .imm5 (pre := []) (by simp only [toNat_fld] at *; omega) (fun _ _ => rfl) (fun _ _ => rfl)
      fun _ _ => installed_plain rfl rfl
  case h_15 h =>
    obtain rfl := append44_of hb (ofNat_eq_of_toNat h)
    exact reads_decode7E p r
  case h_16 =>
    have h : (fld b0 0 4).toNat = 15 := by
      simp only [imp_false] at *
      omega
    obtain rfl := append44_of hb (ofNat_eq_of_toNat h)
    exact reads_decode7F p r
end Sys2Proof
end

section
/-! The pages of the first byte 80 to FF read only encodings of well-formed installed instructions. -/

namespace Sys2Proof

open Reads

variable (p : Product) (r : List Byte)

theorem append1313 (b0 b : Byte) :
    (dsp5 b0 b).extractLsb' 1 1 ++ low (hiLow b) ++ (dsp5 b0 b).extractLsb' 0 1 ++ low (loLow b) = b := by
  have h1 : (dsp5 b0 b).extractLsb' 1 1 = fld b 7 1 :=
    (BitVec.extractLsb'_append_eq_of_le (xhi := fld b0 0 3 ++ fld b 7 1) (xlo := fld b 3 1) (by decide)).trans
      BitVec.extractLsb'_append_eq_right
  have h0 : (dsp5 b0 b).extractLsb' 0 1 = fld b 3 1 := BitVec.extractLsb'_append_eq_right
  rw [h1, h0]
  exact append_eq (by
    simp only [toNat_append_eq, toNat_fld, show (low (hiLow b)).toNat = b.toNat / 2 ^ 4 % 2 ^ 3 from toNat_fld b 4 3,
      show (low (loLow b)).toNat = b.toNat / 2 ^ 0 % 2 ^ 3 from toNat_fld b 0 3]
    omega)

theorem dsp5_hi (b0 b : Byte) : (dsp5 b0 b).extractLsb' 2 3 = fld b0 0 3 :=
  (BitVec.extractLsb'_append_eq_of_le (xhi := fld b0 0 3 ++ fld b 7 1) (xlo := fld b 3 1) (by decide)).trans
    BitVec.extractLsb'_append_eq_left

theorem reads_decode8B {b0 : Byte} (hb : (fld b0 6 2).toNat = 2) : Reads p [b0] r (decode8B b0 r) := by
  unfold decode8B
  split
  case h_1 sz hsz =>
    have hmov (o : BitVec 1) (ho : o = fld b0 3 1) (b : Byte) :
        0b10#2 ++ sz.bits ++ o ++ (dsp5 b0 b).extractLsb' 2 3 = b0 := append_eq (by
      rw [Size.bits_of_ofBits hsz, dsp5_hi, ho]
      simp only [toNat_append_eq, toNat_fld, BitVec.toNat_ofNat] at *
      omega)
    split
    case isTrue h =>
      refine .take1 fun b r => .instr ?_ rfl (installed_plain rfl rfl)
      exact congrArg₂ (fun x y => [x, y]) (hmov 0 h.symm b) (append1313 b0 b)
    case isFalse h =>
      refine .take1 fun b r => .instr ?_ rfl (installed_plain rfl rfl)
      exact congrArg₂ (fun x y => [x, y]) (hmov 1 (bit_of_ne_zero h).symm b) (append1313 b0 b)
  case h_2 hsz =>
    have h3 : (fld b0 4 2).toNat = 3 := congrArg BitVec.toNat (Size.eq_three_of_ofBits hsz)
    refine .take1 fun b r => .instr ?_ rfl (installed_plain rfl rfl)
    have hmovu : 0b1011#4 ++ (MovuSize.ofBits (fld b0 3 1)).bits ++ (dsp5 b0 b).extractLsb' 2 3 = b0 := append_eq (by
      rw [MovuSize.bits_ofBits, dsp5_hi]
      simp only [toNat_append_eq, toNat_fld, BitVec.toNat_ofNat] at *
      omega)
    exact congrArg₂ (fun x y => [x, y]) hmovu (append1313 b0 b)

theorem reads_decodeCE {b0 : Byte} (hb : (fld b0 6 2).toNat = 3) : Reads p [b0] r (decodeCE b0 r) := by
  refine .field fun sz hsz => .take1 fun b r => ?_
  have hlead {dd ds : BitVec 2} (hdd : dd = fld b0 2 2) (hds : ds = fld b0 0 2) : 0b11#2 ++ sz.bits ++ dd ++ ds = b0 :=
    append_eq (by
      rw [Size.bits_of_ofBits hsz, hdd, hds]
      simp only [toNat_append_eq, toNat_fld, BitVec.toNat_ofNat] at *
      omega)
  split
  case isTrue hd =>
    split
    case isTrue hs =>
      have hrr : 0b11#2 ++ sz.bits ++ 0b1111#4 = b0 := by
        rw [← hlead hd.symm hs.symm]
        cases sz <;> rfl
      refine .instr ?_ rfl (installed_plain rfl rfl)
      exact congrArg₂ (fun x y => [x, y]) hrr (nib_append b)
    case isFalse =>
      refine .takeDsp fun d r hds => .instr ?_ rfl (installed_plain rfl rfl)
      exact congrArg₂ (fun x y => [x, y] ++ d.bytes) (hlead hd.symm hds) (nib_append b)
  case isFalse =>
    split
    case isTrue hs =>
      refine .takeDsp fun d r hdd => .instr ?_ rfl (installed_plain rfl rfl)
      exact congrArg₂ (fun x y => [x, y] ++ d.bytes) (hlead hdd hs.symm) (nib_append b)
    case isFalse =>
      refine .takeDsp fun ds r hds => .takeDsp fun dd r hdd => .instr ?_ rfl (installed_plain rfl rfl)
      exact congrArg₂ (fun x y => [x, y] ++ ds.bytes ++ dd.bytes) (hlead hdd hds) (nib_append b)

theorem append422 {b : Byte} {y z : BitVec 2} (hy : y = fld b 2 2) (hz : z = fld b 0 2) :
    nib (hiReg b) ++ y ++ z = b := append_eq (by
  rw [hy, hz, show nib (hiReg b) = fld b 4 4 from rfl]
  simp only [toNat_append_eq, toNat_fld]
  omega)

theorem append413 {b : Byte} {y : BitVec 1} (hy : y = fld b 3 1) : nib (hiReg b) ++ y ++ fld b 0 3 = b := append_eq (by
  rw [hy, show nib (hiReg b) = fld b 4 4 from rfl]
  simp only [toNat_append_eq, toNat_fld]
  omega)

theorem reads_decodeF8 {b0 : Byte} (hb : (fld b0 2 6).toNat = 62) : Reads p [b0] r (decodeF8 b0 r) := by
  refine .take1 fun b r => ?_
  dsimp only
  split
  case isTrue hld =>
    split
    case isTrue hz =>
      obtain rfl : 0xFB = b0 := append62_of hb hld.symm
      refine .takeImm fun v r hv => .instr ?_ rfl (installed_plain rfl rfl)
      exact congrArg (fun x => [0xFB, x] ++ v.bytes) (append422 hv hz.symm)
    case isFalse => exact .undefined
  case isFalse =>
    refine .field fun sz hsz => ?_
    split
    case isTrue hok =>
      refine .takeDsp fun d r hd => .takeImm fun v r hv => .instr ?_ ?_ (installed_plain rfl rfl)
      · exact congrArg₂ (fun x y => [x, y] ++ d.bytes ++ v.bytes) (append62_of hb hd)
          (append422 hv (Size.bits_of_ofBits hsz))
      · exact (movLiOk_bits sz v).symm.trans (hv ▸ hok)
    case isFalse => exact .undefined

theorem reads_decodeF0 {b0 : Byte} (hb : (fld b0 3 5).toNat = 30) : Reads p [b0] r (decodeF0 b0 r) := by
  have hlow (h : fld b0 2 1 = 0) : (fld b0 2 6).toNat = 60 := by
    have h2 : (fld b0 2 1).toNat = 0 := congrArg BitVec.toNat h
    simp only [toNat_fld] at *
    omega
  have hhigh (h : ¬fld b0 2 1 = 0) : (fld b0 2 6).toNat = 61 := by
    have h2 : (fld b0 2 1).toNat = 1 := congrArg BitVec.toNat (bit_of_ne_zero h)
    simp only [toNat_fld] at *
    omega
  unfold decodeF0
  dsimp only
  split
  case isTrue => exact .undefined
  refine .take1 fun b r => ?_
  split
  case isTrue h2 =>
    split
    case isTrue h3 =>
      refine .takeDsp fun d r hd => .instr ?_ rfl (installed_plain rfl rfl)
      exact congrArg₂ (fun x y => [x, y] ++ d.bytes) (append62_of (hlow h2) hd) (append413 h3.symm)
    case isFalse h3 =>
      refine .takeDsp fun d r hd => .instr ?_ rfl (installed_plain rfl rfl)
      exact congrArg₂ (fun x y => [x, y] ++ d.bytes) (append62_of (hlow h2) hd) (append413 (bit_of_ne_zero h3).symm)
  case isFalse h2 =>
    split
    case isTrue h3 =>
      refine .takeDsp fun d r hd => .instr ?_ rfl (installed_plain rfl rfl)
      exact congrArg₂ (fun x y => [x, y] ++ d.bytes) (append62_of (hhigh h2) hd) (append413 h3.symm)
    case isFalse h3 =>
      split
      case isTrue hz =>
        refine .field fun sz hsz => .takeDsp fun d r hd => .instr ?_ rfl (installed_plain rfl rfl)
        have hmid : 2#2 = fld b 2 2 := BitVec.eq_of_toNat_eq (by
          have hz' : (fld b 2 1).toNat = 0 := congrArg BitVec.toNat hz
          have h3' : (fld b 3 1).toNat = 1 := congrArg BitVec.toNat (bit_of_ne_zero h3)
          change 2 = _
          simp only [toNat_fld] at *
          omega)
        exact congrArg₂ (fun x y => [x, y] ++ d.bytes) (append62_of (hhigh h2) hd)
          (append422 hmid (Size.bits_of_ofBits hsz))
      case isFalse => exact .undefined

theorem append332 {b : Byte} {x y : BitVec 3} {z : BitVec 2} (hx : x = fld b 5 3) (hy : y = fld b 2 3)
    (hz : z = fld b 0 2) : x ++ y ++ z = b := append_eq (by
  rw [hx, hy, hz]
  simp only [toNat_append_eq, toNat_fld]
  omega)

theorem reads_decodeScc {b : Byte} (hb : (fld b 4 4).toNat = 13) :
    Reads p [0xFC, b] r (decodeScc (fld b 2 2) (fld b 0 2) r) := by
  refine .field fun sz hsz => ?_
  split
  case isTrue => exact .undefined
  case isFalse hfit =>
    refine .take1 fun c r => .field fun cd hcd => .takeRm fun dst r hld hr => .instr ?_ ?_ (installed_plain rfl rfl)
    · have hlead : 0b1101#4 ++ sz.bits ++ dst.ldBits = b := append_eq (by
        rw [Size.bits_of_ofBits hsz, hld]
        simp only [toNat_append_eq, toNat_fld, BitVec.toNat_ofNat] at *
        omega)
      exact congrArg₂ (fun x y => [0xFC, x, y] ++ dst.dspBytes) hlead
        (append44 (dst.regBits_eq.trans (congrArg nib hr)) (Cond.bits_of_ofBits hcd))
    · show dst.fitsScc sz = true
      cases dst with
      | reg => simpa [RegOrMem.fitsScc, ← hld, RegOrMem.ldBits] using hfit
      | mem => rfl

theorem reads_decodeBm {b : Byte} (hb : fld b 5 3 = 7) :
    Reads p [0xFC, b] r (decodeBm (fld b 2 3) (fld b 0 2) r) := by
  unfold decodeBm
  split
  case isTrue => exact .undefined
  refine .take1 fun c r => ?_
  split
  case isTrue h15 =>
    refine .takeDsp fun d r hd => .instr ?_ rfl (installed_plain rfl rfl)
    exact congrArg₂ (fun x y => [0xFC, x, y] ++ d.bytes) (append332 hb.symm rfl hd) (append44 rfl h15.symm)
  case isFalse =>
    refine .field fun cd hcd => .takeDsp fun d r hd => .instr ?_ rfl (installed_plain rfl rfl)
    exact congrArg₂ (fun x y => [0xFC, x, y] ++ d.bytes) (append332 hb.symm rfl hd)
      (append44 rfl (Cond.bits_of_ofBits hcd))

theorem reads_decodeFC : Reads p [0xFC] r (decodeFC p r) := by
  refine .take1 fun b r => ?_
  dsimp only
  split
  case h_1 h | h_2 h | h_3 h | h_4 h | h_5 h =>
    obtain rfl := ofNat_eq_of_toNat h
    exact .tail2 (fun _ _ => rfl) (fun _ _ => rfl) fun _ _ => installed_plain rfl rfl
  case h_6 =>
    split
    case h_1 h | h_2 h | h_5 h | h_6 h | h_7 h | h_8 h | h_9 h =>
      exact .tailRm (pre := [0xFC]) h (fun _ _ => rfl) (fun _ _ => rfl) fun _ _ => installed_plain rfl rfl
    case h_3 h | h_4 h =>
      exact .tailRmPair (pre := [0xFC]) h (fun _ _ => rfl) (fun _ _ => rfl) fun _ _ => installed_plain rfl rfl
    case h_10 h | h_15 h | h_16 h | h_17 h | h_18 h | h_19 h | h_20 h | h_21 h =>
      exact .fpu fun hp =>
        .tailRm (pre := [0xFC]) h (fun _ _ => rfl) (fun _ _ => rfl) fun _ _ => installed_fpu hp rfl
    case h_11 h | h_12 h | h_13 h | h_14 h =>
      exact .tailBit (pre := [0xFC]) h (fun _ _ _ => rfl) (fun _ _ => rfl) (fun _ _ _ => rfl) (fun _ _ => rfl)
        (fun _ _ _ => installed_plain rfl rfl) fun _ _ => installed_plain rfl rfl
    case h_22 =>
      split
      case isTrue h => exact reads_decodeScc p r (congrArg BitVec.toNat h)
      case isFalse =>
        split
        case isTrue h => exact reads_decodeBm p r h
        case isFalse => exact .undefined

theorem reads_decodeFD7 {b : Byte} (hb : (fld b 4 4).toNat = 7) : Reads p [0xFD, b] r (decodeFD7 p b r) := by
  have hlead {li lo : BitVec 2} (hli : li = fld b 2 2) (hlo : lo = fld b 0 2) : 0b0111#4 ++ li ++ lo = b :=
    append_eq (by
      rw [hli, hlo]
      simp only [toNat_append_eq, toNat_fld, BitVec.toNat_ofNat] at *
      omega)
  unfold decodeFD7
  dsimp only
  split
  case h_1 h0 =>
    refine .take1 fun c r => ?_
    have hleaf {k : Simm → Reg → Instr} {n : Nat} (hn : (fld c 4 4).toNat = n)
        (he : ∀ v rd, encode (k v rd) =
          ([0xFD, 0b0111#4 ++ v.bits ++ 0b00#2, BitVec.ofNat 4 n ++ nib rd] : List Byte) ++ v.bytes)
        (hw : ∀ v, (k v (loReg c)).wellFormed = true)
        (hi : ∀ v, (k v (loReg c)).installed p = true) :
        Reads p ([0xFD, b] ++ [c]) r (Sys2Proof.takeImm (fld b 2 2) r fun v r => .instr (k v (loReg c)) r) :=
      .takeImm fun v r hv => .instr (by
        rw [he, hlead hv (ofNat_eq_of_toNat h0), append44_of hn (nib_loReg c)]
        rfl) (hw v) (hi v)
    split
    case h_4 h | h_5 h =>
      split
      case isTrue hrd => exact hleaf h (fun _ _ => rfl) (fun _ => hrd) fun _ => installed_plain rfl rfl
      case isFalse => exact .undefined
    case h_12 => exact .undefined
    all_goals exact hleaf ‹_› (fun _ _ => rfl) (fun _ => rfl) fun _ => installed_plain rfl rfl
  case h_2 h2 =>
    split
    case isTrue hli =>
      obtain rfl : 0x72 = b := hlead hli.symm (ofNat_eq_of_toNat h2)
      refine .fpu fun hp => .take1 fun c r => ?_
      split
      case h_6 => exact .undefined
      all_goals
        refine .take32 fun v r => .instr ?_ rfl (installed_fpu hp rfl)
        rw [encode, append44_of ‹_› (nib_loReg c)]
        rfl
    case isFalse => exact .undefined
  case h_3 h3 =>
    refine .take1 fun c r => ?_
    split
    case isTrue hz =>
      refine .field fun cr hcr => ?_
      split
      case isTrue hw =>
        refine .takeImm fun v r hv => .instr ?_ hw (installed_plain rfl rfl)
        exact congrArg₂ (fun x y => [0xFD, x, y] ++ v.bytes) (hlead hv (ofNat_eq_of_toNat h3))
          (append44 hz.symm (CReg.bits_of_ofBits hcr))
      case isFalse => exact .undefined
    case isFalse => exact .undefined
  case h_4 => exact .undefined

theorem append314 {b : Byte} {y : BitVec 1} {z : BitVec 4} (hx : fld b 5 3 = 0) (hy : y = fld b 4 1)
    (hz : fld b 0 4 = z) : 0#3 ++ y ++ z = b := append_eq (by
  have hx' : (fld b 5 3).toNat = 0 := congrArg BitVec.toNat hx
  rw [hy, ← hz]
  simp only [toNat_append_eq, toNat_fld, BitVec.toNat_ofNat] at *
  omega)

theorem reads_decodeDsp (b : Byte) : Reads p [0xFD, b] r (decodeDsp b r) := by
  unfold decodeDsp
  split
  case h_1 h | h_2 h | h_3 h | h_4 h =>
    obtain rfl := ofNat_eq_of_toNat h
    exact .tail2 (fun _ _ => rfl) (fun _ _ => rfl) fun _ _ => installed_plain rfl rfl
  case h_5 h | h_7 h =>
    obtain rfl := ofNat_eq_of_toNat h
    refine .take1 fun c r => ?_
    split
    case h_1 hc | h_2 hc => exact .instr44 (ofNat_eq_of_toNat hc) rfl rfl rfl (installed_plain rfl rfl)
    case h_3 => exact .undefined
  case h_6 h =>
    obtain rfl := ofNat_eq_of_toNat h
    refine .take1 fun c r => ?_
    split
    case isTrue hc =>
      exact .instr (congrArg (fun x => [0xFD, 0x18, x]) (append314 hc.1 rfl hc.2)) rfl (installed_plain rfl rfl)
    case isFalse => exact .undefined
  case h_8 => exact .undefined

theorem reads_decodeAuto {b : Byte} (hb : (fld b 5 3).toNat = 1) : Reads p [0xFD, b] r (decodeAuto b r) := by
  unfold decodeAuto
  dsimp only
  split
  case isTrue h4 =>
    refine .field fun sz hsz => ?_
    have hlead {o : BitVec 1} (ho : o = fld b 3 1) :
        0b0010#4 ++ o ++ (Auto.ofBits (fld b 2 1)).bits ++ sz.bits = b := append_eq (by
      have h4' : (fld b 4 1).toNat = 0 := congrArg BitVec.toNat h4
      rw [Auto.bits_ofBits, Size.bits_of_ofBits hsz, ho]
      simp only [toNat_append_eq, toNat_fld, BitVec.toNat_ofNat] at *
      omega)
    split
    case isTrue h3 =>
      exact .tail2 (fun rs rd => congrArg (fun x => [0xFD, x, nib rs ++ nib rd]) (hlead h3.symm)) (fun _ _ => rfl)
        fun _ _ => installed_plain rfl rfl
    case isFalse h3 =>
      exact .tail2 (fun rs rd => congrArg (fun x => [0xFD, x, nib rs ++ nib rd]) (hlead (bit_of_ne_zero h3).symm))
        (fun _ _ => rfl) fun _ _ => installed_plain rfl rfl
  case isFalse h4 =>
    split
    case isTrue h =>
      obtain ⟨h3, h1⟩ := h
      have hlead : 0b0011#4 ++ 0b1#1 ++ (Auto.ofBits (fld b 2 1)).bits ++ 0b0#1 ++
          (MovuSize.ofBits (fld b 0 1)).bits = b := append_eq (by
        have h4' : (fld b 4 1).toNat = 1 := congrArg BitVec.toNat (bit_of_ne_zero h4)
        have h3' : (fld b 3 1).toNat = 1 := congrArg BitVec.toNat h3
        have h1' : (fld b 1 1).toNat = 0 := congrArg BitVec.toNat h1
        rw [Auto.bits_ofBits, MovuSize.bits_ofBits]
        simp only [toNat_append_eq, toNat_fld, BitVec.toNat_ofNat] at *
        omega)
      exact .tail2 (fun rs rd => congrArg (fun x => [0xFD, x, nib rs ++ nib rd]) hlead) (fun _ _ => rfl)
        fun _ _ => installed_plain rfl rfl
    case isFalse => exact .undefined

theorem reads_decodeFD6 {b : Byte} (hb : (fld b 4 4).toNat = 6) : Reads p [0xFD, b] r (decodeFD6 b r) := by
  unfold decodeFD6
  split
  case h_1 h | h_2 h | h_3 h | h_4 h | h_5 h | h_6 h | h_7 h =>
    obtain rfl := append44_of hb (ofNat_eq_of_toNat h)
    exact .tail2 (fun _ _ => rfl) (fun _ _ => rfl) fun _ _ => installed_plain rfl rfl
  case h_8 h =>
    obtain rfl := append44_of hb (ofNat_eq_of_toNat h)
    refine .take1 fun c r => .field fun cr hcr => ?_
    split
    case isTrue hw => exact .instr44 rfl (CReg.bits_of_ofBits hcr) rfl hw (installed_plain rfl rfl)
    case isFalse => exact .undefined
  case h_9 h =>
    obtain rfl := append44_of hb (ofNat_eq_of_toNat h)
    exact .take1 fun c r => .field fun cr hcr =>
      .instr44 (CReg.bits_of_ofBits hcr) rfl rfl rfl (installed_plain rfl rfl)
  case h_10 h | h_11 h | h_12 h | h_13 h =>
    exact .imm5 (pre := [0xFD]) (by simp only [toNat_fld] at *; omega) (fun _ _ => rfl) (fun _ _ => rfl)
      fun _ _ => installed_plain rfl rfl
  case h_14 => exact .undefined

theorem append35_of {n : Nat} {b : Byte} (hx : (fld b 5 3).toNat = n) : BitVec.ofNat 3 n ++ fld b 0 5 = b :=
  append_eq (by rw [ofNat_eq_of_toNat hx, toNat_fld, toNat_fld]; omega)

theorem reads_decodeFD : Reads p [0xFD] r (decodeFD p r) := by
  refine .take1 fun b r => ?_
  split
  case h_1 => exact reads_decodeDsp p r b
  case h_2 h => exact reads_decodeAuto p r h
  case h_3 => exact .undefined
  case h_4 h =>
    split
    case isTrue h4 =>
      have h4' : (fld b 4 1).toNat = 0 := congrArg BitVec.toNat h4
      exact reads_decodeFD6 p r (by simp only [toNat_fld] at *; omega)
    case isFalse h4 =>
      have h4' : (fld b 4 1).toNat = 1 := congrArg BitVec.toNat (bit_of_ne_zero h4)
      exact reads_decodeFD7 p r (by simp only [toNat_fld] at *; omega)
  case h_5 h | h_6 h | h_7 h =>
    refine .take1 fun c r => .instr ?_ rfl (installed_plain rfl rfl)
    rw [encode, append35_of h, nib_append]
    rfl
  case h_8 =>
    have hlow : (fld b 5 3).toNat < 8 := (fld b 5 3).isLt
    have h : (fld b 5 3).toNat = 7 := by
      simp only [imp_false] at *
      omega
    refine .take1 fun c r => ?_
    split
    case isTrue h15 =>
      refine .instr ?_ rfl (installed_plain rfl rfl)
      exact congrArg₂ (fun x y => [0xFD, x, y]) (append35_of h) (append44 h15.symm rfl)
    case isFalse =>
      refine .field fun cd hcd => .instr ?_ rfl (installed_plain rfl rfl)
      exact congrArg₂ (fun x y => [0xFD, x, y]) (append35_of h) (append44 (Cond.bits_of_ofBits hcd) rfl)

theorem append224_of {n : Nat} {b : Byte} {y : BitVec 2} (hx : (fld b 6 2).toNat = n) (hy : y = fld b 4 2) :
    BitVec.ofNat 2 n ++ y ++ nib (loReg b) = b := append_eq (by
  rw [ofNat_eq_of_toNat hx, hy, nib_loReg]
  simp only [toNat_append_eq, toNat_fld]
  omega)

theorem reads_decodeFE : Reads p [0xFE] r (decodeFE r) := by
  refine .take1 fun b r => ?_
  split
  case h_1 h | h_2 h =>
    refine .field fun sz hsz => .take1 fun c r => .instr ?_ rfl (installed_plain rfl rfl)
    rw [encode, append224_of h (Size.bits_of_ofBits hsz), nib_append]
    rfl
  case h_3 h =>
    split
    case isTrue h5 =>
      have hlead : 0b110#3 ++ (MovuSize.ofBits (fld b 4 1)).bits ++ nib (loReg b) = b := append_eq (by
        have h5' : (fld b 5 1).toNat = 0 := congrArg BitVec.toNat h5
        rw [MovuSize.bits_ofBits, nib_loReg]
        simp only [toNat_append_eq, toNat_fld, BitVec.toNat_ofNat] at *
        omega)
      refine .take1 fun c r => .instr ?_ rfl (installed_plain rfl rfl)
      exact congrArg₂ (fun x y => [0xFE, x, y]) hlead (nib_append c)
    case isFalse => exact .undefined
  case h_4 => exact .undefined

theorem reads_decodeFF : Reads p [0xFF] r (decodeFF r) := by
  refine .take1 fun b r => ?_
  dsimp only
  split
  case h_6 => exact .undefined
  all_goals
    refine .take1 fun c r => .instr ?_ rfl (installed_plain rfl rfl)
    rw [encode, append44_of ‹_› (nib_loReg b), nib_append]
    rfl

theorem reads_decodeF {b0 : Byte} (hb : (fld b0 4 4).toNat = 15) : Reads p [b0] r (decodeF p b0 r) := by
  unfold decodeF
  split
  case h_1 h =>
    obtain rfl := append44_of hb (ofNat_eq_of_toNat h)
    exact reads_decodeFC p r
  case h_2 h =>
    obtain rfl := append44_of hb (ofNat_eq_of_toNat h)
    exact reads_decodeFD p r
  case h_3 h =>
    obtain rfl := append44_of hb (ofNat_eq_of_toNat h)
    exact reads_decodeFE p r
  case h_4 h =>
    obtain rfl := append44_of hb (ofNat_eq_of_toNat h)
    exact reads_decodeFF p r
  case h_5 =>
    split
    case isTrue h3 =>
      have h3' : (fld b0 3 1).toNat = 0 := congrArg BitVec.toNat h3
      exact reads_decodeF0 p r (by simp only [toNat_fld] at *; omega)
    case isFalse h3 =>
      have h3' : (fld b0 3 1).toNat = 1 := congrArg BitVec.toNat (bit_of_ne_zero h3)
      exact reads_decodeF8 p r (by simp only [toNat_fld, imp_false] at *; omega)

theorem reads_decode (bytes : List Byte) : Reads p [] bytes (decode p bytes) := by
  cases bytes with
  | nil => exact .short
  | cons b0 r =>
    refine of_append (pre := []) (x := [b0]) ?_
    have hhi : (fld b0 4 4).toNat < 16 := (fld b0 4 4).isLt
    simp only [decode]
    split
    case h_1 h => exact reads_decode0 p r h
    case h_2 h => exact reads_decode1 p r h
    case h_3 h => exact reads_decode2 p r h
    case h_4 h => exact reads_decode3 p r h
    case h_5 h => exact reads_decode45 p r (.inl h)
    case h_6 h => exact reads_decode45 p r (.inr h)
    case h_7 h => exact reads_decode6 p r h
    case h_8 h => exact reads_decode7 p r h
    case h_9 h | h_10 h | h_11 h | h_12 h => exact reads_decode8B p r (by simp only [toNat_fld] at *; omega)
    case h_13 h | h_14 h | h_15 h => exact reads_decodeCE p r (by simp only [toNat_fld] at *; omega)
    case h_16 => exact reads_decodeF p r (by simp only [imp_false] at *; omega)

end Sys2Proof
end

section
/-! The decoder reads every encoding (R121, R140, R143): the first bytes choose a page, the page its row, and the row's
readers get back the operands that the encoder wrote. -/

namespace Sys2Proof

/-! ### The fields of a byte written from fields -/

theorem fld_append44_sub (x y : BitVec 4) (lo w : Nat) : fld (x ++ y) (lo + 4) w = x.extractLsb' lo w :=
  BitVec.extractLsb'_append_eq_of_le (xhi := x) (xlo := y) (by omega)

theorem fld_append62_lo (x : BitVec 6) (y : BitVec 2) : fld (x ++ y) 0 2 = y := BitVec.extractLsb'_append_eq_right

theorem fld_append62_sub (x : BitVec 6) (y : BitVec 2) (lo w : Nat) : fld (x ++ y) (lo + 2) w = x.extractLsb' lo w :=
  BitVec.extractLsb'_append_eq_of_le (xhi := x) (xlo := y) (by omega)

theorem fld_append35_hi (x : BitVec 3) (y : BitVec 5) : fld (x ++ y) 5 3 = x := BitVec.extractLsb'_append_eq_left

theorem fld_append35_lo (x : BitVec 3) (y : BitVec 5) : fld (x ++ y) 0 5 = y := BitVec.extractLsb'_append_eq_right

theorem fld_append422_lo (x : BitVec 4) (y z : BitVec 2) : fld (x ++ y ++ z) 0 2 = z :=
  BitVec.extractLsb'_append_eq_right

theorem fld_append422_mid (x : BitVec 4) (y z : BitVec 2) (lo w : Nat) (h : lo + w ≤ 2) :
    fld (x ++ y ++ z) (lo + 2) w = y.extractLsb' lo w :=
  (BitVec.extractLsb'_append_eq_of_le (xhi := x ++ y) (xlo := z) (by omega)).trans
    (BitVec.extractLsb'_append_eq_of_add_le (xhi := x) (xlo := y) (by omega))

theorem hiReg_append422 (r : Reg) (y z : BitVec 2) : hiReg (nib r ++ y ++ z) = r :=
  congrArg BitVec.toFin ((BitVec.extractLsb'_append_eq_of_le (xhi := nib r ++ y) (xlo := z) (by decide)).trans
    BitVec.extractLsb'_append_eq_left)

theorem fld_append413_lo (x : BitVec 4) (y : BitVec 1) (z : BitVec 3) : fld (x ++ y ++ z) 0 3 = z :=
  BitVec.extractLsb'_append_eq_right

theorem fld_append413_mid (x : BitVec 4) (y : BitVec 1) (z : BitVec 3) : fld (x ++ y ++ z) 3 1 = y :=
  (BitVec.extractLsb'_append_eq_of_le (xhi := x ++ y) (xlo := z) (by decide)).trans
    BitVec.extractLsb'_append_eq_right

theorem hiReg_append413 (r : Reg) (y : BitVec 1) (z : BitVec 3) : hiReg (nib r ++ y ++ z) = r :=
  congrArg BitVec.toFin ((BitVec.extractLsb'_append_eq_of_le (xhi := nib r ++ y) (xlo := z) (by decide)).trans
    BitVec.extractLsb'_append_eq_left)

theorem fld_append2222 (w x y z : BitVec 2) :
    fld (w ++ x ++ y ++ z) 4 2 = x ∧ fld (w ++ x ++ y ++ z) 2 2 = y ∧ fld (w ++ x ++ y ++ z) 0 2 = z := by
  refine ⟨?_, ?_, BitVec.extractLsb'_append_eq_right⟩
  · exact ((BitVec.extractLsb'_append_eq_of_le (xhi := w ++ x ++ y) (xlo := z) (by decide)).trans
      (BitVec.extractLsb'_append_eq_of_le (xhi := w ++ x) (xlo := y) (by decide))).trans
      BitVec.extractLsb'_append_eq_right
  · exact (BitVec.extractLsb'_append_eq_of_le (xhi := w ++ x ++ y) (xlo := z) (by decide)).trans
      BitVec.extractLsb'_append_eq_right

/-- The four fields of the second byte of a dsp:5 form (R141). -/
theorem fld_append1313 (x : BitVec 1) (y : BitVec 3) (z : BitVec 1) (w : BitVec 3) :
    fld (x ++ y ++ z ++ w) 7 1 = x ∧ fld (x ++ y ++ z ++ w) 4 3 = y ∧ fld (x ++ y ++ z ++ w) 3 1 = z ∧
      fld (x ++ y ++ z ++ w) 0 3 = w := by
  have hdrop (lo n : Nat) : fld (x ++ y ++ z ++ w) (lo + 4) n = (x ++ y).extractLsb' lo n :=
    (BitVec.extractLsb'_append_eq_of_le (xhi := x ++ y ++ z) (xlo := w) (by omega)).trans
      (BitVec.extractLsb'_append_eq_of_le (xhi := x ++ y) (xlo := z) (by omega))
  refine ⟨(hdrop 3 1).trans BitVec.extractLsb'_append_eq_left, (hdrop 0 3).trans BitVec.extractLsb'_append_eq_right,
    ?_, BitVec.extractLsb'_append_eq_right⟩
  exact (BitVec.extractLsb'_append_eq_of_le (xhi := x ++ y ++ z) (xlo := w) (by decide)).trans
    BitVec.extractLsb'_append_eq_right

/-- The three fields of the second byte of MOV (4) (R382). -/
theorem fld_append134 (x : BitVec 1) (y : BitVec 3) (z : BitVec 4) :
    fld (x ++ y ++ z) 7 1 = x ∧ fld (x ++ y ++ z) 4 3 = y ∧ fld (x ++ y ++ z) 0 4 = z := by
  have hdrop (lo n : Nat) : fld (x ++ y ++ z) (lo + 4) n = (x ++ y).extractLsb' lo n :=
    BitVec.extractLsb'_append_eq_of_le (xhi := x ++ y) (xlo := z) (by omega)
  exact ⟨(hdrop 3 1).trans BitVec.extractLsb'_append_eq_left, (hdrop 0 3).trans BitVec.extractLsb'_append_eq_right,
    BitVec.extractLsb'_append_eq_right⟩

/-! ### Operands that are read back -/

theorem append_imm5 (v : BitVec 5) : v.extractLsb' 4 1 ++ v.extractLsb' 0 4 = v := by
  rw [BitVec.extractLsb'_append_extractLsb'_eq_extractLsb' (by rfl)]
  exact BitVec.extractLsb'_eq_self

theorem append_dsp5 (v : BitVec 5) : v.extractLsb' 2 3 ++ v.extractLsb' 1 1 ++ v.extractLsb' 0 1 = v := by
  rw [BitVec.extractLsb'_append_extractLsb'_eq_extractLsb' (by rfl),
    BitVec.extractLsb'_append_extractLsb'_eq_extractLsb' (by rfl)]
  exact BitVec.extractLsb'_eq_self

theorem Dsp.bits_ne (d : Dsp) : ¬d.bits = 3#2 := d.bits_ne_three

theorem field_some {α : Type} (a : α) (w : Reject) (k : α → Decoded) : field (some a) w k = k a := rfl

theorem Size.ofBits_bits (sz : Size) : Size.ofBits sz.bits = some sz := by cases sz <;> rfl

theorem MovuSize.ofBits_bits (sz : MovuSize) : MovuSize.ofBits sz.bits = sz := by cases sz <;> rfl

theorem Cond.ofBits_bits (cd : Cond) : Cond.ofBits cd.bits = some cd := by cases cd <;> rfl

theorem Cond.bits_ne_fifteen (cd : Cond) : cd.bits ≠ 15#4 := by cases cd <;> decide

theorem CReg.ofBits_bits (cr : CReg) : CReg.ofBits cr.bits = some cr := by cases cr <;> rfl

theorem fpu_present {p : Product} (h : p.hasFpu = true) (k : Decoded) : fpu p k = k := if_pos h

theorem Instr.hasFpu_of_installed {p : Product} {i : Instr} (h : i.installed p = true) (hn : i.needsFpu = true) :
    p.hasFpu = true := by
  simp only [Instr.installed, hn, Bool.not_true, Bool.or_false, Bool.and_eq_true] at h
  exact h.1

theorem Instr.hasMvtipl_of_installed {p : Product} {i : Instr} (h : i.installed p = true)
    (hn : i.needsMvtipl = true) : p.hasMvtipl = true := by
  simp only [Instr.installed, hn, Bool.not_true, Bool.or_false, Bool.and_eq_true] at h
  exact h.2

/-- SCCnd of a register is .L only (R392). -/
theorem RegOrMem.fitsScc_bits {dst : RegOrMem} {sz : Size} (h : dst.fitsScc sz = true) :
    dst.ldBits = 3#2 → sz = .l := by
  cases dst with
  | reg r => exact fun _ => by simpa [RegOrMem.fitsScc] using h
  | mem b d => exact fun hld => absurd hld d.bits_ne

section Tails

variable {dec : Decoded} (rest : List Byte)

theorem imm4_bytes {v : BitVec 4} {rd : Reg} {k : BitVec 4 → Reg → Instr}
    (h : dec = .instr (k (fld (v ++ nib rd) 4 4) (loReg (v ++ nib rd))) rest) : dec = .instr (k v rd) rest := by
  rw [h, fld_append44_hi, loReg_append]

theorem imm5_bytes {v : BitVec 5} {rd : Reg} {k : BitVec 5 → Reg → Instr}
    (h : dec = .instr (k (v.extractLsb' 4 1 ++ fld (v.extractLsb' 0 4 ++ nib rd) 4 4)
      (loReg (v.extractLsb' 0 4 ++ nib rd))) rest) : dec = .instr (k v rd) rest := by
  rw [h, fld_append44_hi, loReg_append, append_imm5]

theorem dsp5_bytes {d : BitVec 5} {x y : LowReg} {k : BitVec 5 → LowReg → LowReg → Instr} {b : Byte}
    (hb : b = d.extractLsb' 1 1 ++ low x ++ d.extractLsb' 0 1 ++ low y)
    (h : dec = .instr (k (d.extractLsb' 2 3 ++ fld b 7 1 ++ fld b 3 1) (hiLow b) (loLow b)) rest) :
    dec = .instr (k d x y) rest := by
  obtain ⟨h7, h4, h3, h0⟩ := fld_append1313 (d.extractLsb' 1 1) (low x) (d.extractLsb' 0 1) (low y)
  have hx : hiLow b = x := hb ▸ congrArg BitVec.toFin h4
  have hy : loLow b = y := hb ▸ congrArg BitVec.toFin h0
  rw [h, hx, hy, hb, h7, h3, append_dsp5]

theorem tailBit_bytes {d : Dsp} {rs rd : Reg} {m : Reg → Reg → Dsp → Instr} {k : Reg → Reg → Instr}
    (h : dec = tailBit d.bits ((nib rd ++ nib rs) :: (d.bytes ++ rest)) m k) : dec = .instr (m rs rd d) rest := by
  rw [h, tailBit, take1_cons, if_neg d.bits_ne_three, hiReg_append, loReg_append, takeDsp_bytes]

theorem tailBit_reg {rs rd : Reg} {m : Reg → Reg → Dsp → Instr} {k : Reg → Reg → Instr}
    (h : dec = tailBit 3 ((nib rd ++ nib rs) :: rest) m k) : dec = .instr (k rs rd) rest := by
  rw [h, tailBit, take1_cons, if_pos rfl, hiReg_append, loReg_append]

theorem tailRange_bytes {first last : Reg} {k : Reg → Reg → Instr} (hr : first.rangeOk last = true)
    (h : dec = tailRange ((nib first ++ nib last) :: rest) k) : dec = .instr (k first last) rest := by
  rw [h, tailRange, take1_cons, hiReg_append, loReg_append, if_pos hr]

end Tails

/-! ### Pages by their first bytes -/

section Pages

variable (p : Product) (r : List Byte)

theorem decode_70 (li : BitVec 2) (b : Byte) : decode p ((0b011100#6 ++ li) :: b :: r) =
    takeImm li r fun imm r => .instr (.addImm3 imm (hiReg b) (loReg b)) r := by
  rcases bitVec2_cases li with rfl | rfl | rfl | rfl <;> rfl

theorem decode_74 (li : BitVec 2) : decode p ((0b011101#6 ++ li) :: r) = decode74 p (0b011101#6 ++ li) r := by
  rcases bitVec2_cases li with rfl | rfl | rfl | rfl <;> rfl

theorem decode_75 : decode p (0x75#8 :: r) = decode74 p 0x75#8 r := rfl

theorem fld_75 : fld 0x75#8 0 2 = 1#2 := rfl

theorem decode_7E : decode p (0x7E#8 :: r) = decode7E r := rfl

theorem decode_7F : decode p (0x7F#8 :: r) = decode7F r := rfl

theorem decode_CE (sz : Size) (ldd lds : BitVec 2) : decode p ((0b11#2 ++ sz.bits ++ ldd ++ lds) :: r) =
    decodeCE (0b11#2 ++ sz.bits ++ ldd ++ lds) r := by
  cases sz <;> rcases bitVec2_cases ldd with rfl | rfl | rfl | rfl <;>
    rcases bitVec2_cases lds with rfl | rfl | rfl | rfl <;> rfl

theorem decode_F0 (ld : BitVec 2) : decode p ((0b111100#6 ++ ld) :: r) = decodeF0 (0b111100#6 ++ ld) r := by
  rcases bitVec2_cases ld with rfl | rfl | rfl | rfl <;> rfl

theorem decode_F4 (ld : BitVec 2) : decode p ((0b111101#6 ++ ld) :: r) = decodeF0 (0b111101#6 ++ ld) r := by
  rcases bitVec2_cases ld with rfl | rfl | rfl | rfl <;> rfl

theorem decode_F8 (ld : BitVec 2) : decode p ((0b111110#6 ++ ld) :: r) = decodeF8 (0b111110#6 ++ ld) r := by
  rcases bitVec2_cases ld with rfl | rfl | rfl | rfl <;> rfl

theorem decode_FB : decode p (0xFB#8 :: r) = decodeF8 0xFB#8 r := rfl

theorem fld_FB : fld 0xFB#8 0 2 = 3#2 := rfl

theorem decode_FC_scc (z ld : BitVec 2) : decode p (0xFC#8 :: (0b1101#4 ++ z ++ ld) :: r) = decodeScc z ld r := by
  rcases bitVec2_cases z with rfl | rfl | rfl | rfl <;> rcases bitVec2_cases ld with rfl | rfl | rfl | rfl <;> rfl

theorem decode_FC_bm (imm : BitVec 3) (ld : BitVec 2) :
    decode p (0xFC#8 :: (0b111#3 ++ imm ++ ld) :: r) = decodeBm imm ld r := by
  rcases bitVec3_cases imm with rfl | rfl | rfl | rfl | rfl | rfl | rfl | rfl <;>
    rcases bitVec2_cases ld with rfl | rfl | rfl | rfl <;> rfl

theorem decode_FD : decode p (0xFD#8 :: r) = decodeFD p r := rfl

theorem decode_FD7 (li lo : BitVec 2) :
    decode p (0xFD#8 :: (0b0111#4 ++ li ++ lo) :: r) = decodeFD7 p (0b0111#4 ++ li ++ lo) r := by
  rcases bitVec2_cases li with rfl | rfl | rfl | rfl <;> rcases bitVec2_cases lo with rfl | rfl | rfl | rfl <;> rfl

theorem decode_FD72 : decode p (0xFD#8 :: 0x72#8 :: r) = decodeFD7 p 0x72#8 r := rfl

theorem fld_72 : fld 0x72#8 0 2 = 2#2 ∧ fld 0x72#8 2 2 = 0#2 := ⟨rfl, rfl⟩

theorem decode_FD_acc {b : Byte} (h : b ∈ [0x17#8, 0x1F#8]) : decode p (0xFD#8 :: b :: r) = decodeDsp b r := by
  rcases List.mem_pair.1 h with rfl | rfl <;> rfl

theorem decode_FD_control {b : Byte} (h : b ∈ [0x68#8, 0x6A#8]) : decode p (0xFD#8 :: b :: r) = decodeFD6 b r := by
  rcases List.mem_pair.1 h with rfl | rfl <;> rfl

theorem fld_68 : fld 0x68#8 0 4 = 8#4 := rfl

theorem fld_6A : fld 0x6A#8 0 4 = 10#4 := rfl

theorem decode_FE : decode p (0xFE#8 :: r) = decodeFE r := rfl

theorem decode_FF : decode p (0xFF#8 :: r) = decodeFF r := rfl

end Pages

/-! ### Every instruction is read back -/

/-- How an instruction's operands are written: the common tail of a register or memory source, the forms of MOV, MOVU
and PUSH, those of the bit instructions, and all others. -/
inductive Form where
  | source | move | bit | other

def Instr.form : Instr → Form
  | .addRm .. | .andRm .. | .cmpRm .. | .mulRm .. | .orRm .. | .subRm .. | .divRm .. | .divuRm .. | .maxRm ..
  | .minRm .. | .tstRm .. | .xorRm .. | .xchgRm .. | .movuRm .. | .faddRm .. | .fcmpRm .. | .fdivRm .. | .fmulRm ..
  | .fsubRm .. | .ftoiRm .. | .roundRm .. | .itofRm .. | .emulRm .. | .emuluRm .. | .addMx .. | .andMx .. | .cmpMx ..
  | .divMx .. | .divuMx .. | .maxMx .. | .minMx .. | .mulMx .. | .orMx .. | .subMx .. | .tstMx .. | .xorMx ..
  | .xchgMx .. | .itofMx .. | .emulMx .. | .emuluMx .. | .adcMem .. | .sbbMem .. => .source
  | .movStoreD5 .. | .movLoadD5 .. | .movUimm4 .. | .movImmD5 .. | .movUimm8 .. | .movImm .. | .movRR ..
  | .movImmMem .. | .movLoad .. | .movLoadIdx .. | .movStore .. | .movStoreIdx .. | .movMemMem .. | .movStoreAuto ..
  | .movLoadAuto .. | .movuLoadD5 .. | .movuLoadIdx .. | .movuLoadAuto .. | .pushMem .. => .move
  | .bclrImmMem .. | .bclrRMem .. | .bclrImm .. | .bclrRR .. | .bsetImmMem .. | .bsetRMem .. | .bsetImm ..
  | .bsetRR .. | .btstImmMem .. | .btstRMem .. | .btstImm .. | .btstRR .. | .bmcndMem .. | .bmcndR ..
  | .bnotImmMem .. | .bnotRMem .. | .bnotImm .. | .bnotRR .. | .sccnd .. => .bit
  | _ => .other

section ReadBack

variable {p : Product} {i : Instr} (rest : List Byte)

theorem decode_encode_source (hf : i.form = .source) (hw : i.wellFormed = true) (hi : i.installed p = true) :
    decode p (encode i ++ rest) = .instr i rest := by
  cases i with
  | addRm src rd | andRm src rd | cmpRm src rd | mulRm src rd | orRm src rd | subRm src rd | divRm src rd
  | divuRm src rd | maxRm src rd | minRm src rd | tstRm src rd | xorRm src rd | xchgRm src rd =>
    rcases bitVec2_cases src.ldBits with h | h | h | h <;> exact tailRm_bytes rest (by rw [encode, h]; rfl)
  | movuRm sz src rd =>
    cases sz <;> rcases bitVec2_cases src.ldBits with h | h | h | h <;>
      exact tailRm_bytes rest (by rw [encode, h]; rfl)
  | faddRm src rd | fcmpRm src rd | fdivRm src rd | fmulRm src rd | fsubRm src rd | ftoiRm src rd | roundRm src rd
  | itofRm src rd =>
    have hp := fpu_present (Instr.hasFpu_of_installed hi rfl)
    rcases bitVec2_cases src.ldBits with h | h | h | h <;>
      exact tailRm_bytes rest (.trans (by rw [encode, h]; rfl) (hp _))
  | emulRm src rd | emuluRm src rd =>
    rcases bitVec2_cases src.ldBits with h | h | h | h <;> exact tailRmPair_bytes rest hw (by rw [encode, h]; rfl)
  | addMx mx rs d rd | andMx mx rs d rd | cmpMx mx rs d rd | divMx mx rs d rd | divuMx mx rs d rd | maxMx mx rs d rd
  | minMx mx rs d rd | mulMx mx rs d rd | orMx mx rs d rd | subMx mx rs d rd | tstMx mx rs d rd | xorMx mx rs d rd
  | xchgMx mx rs d rd =>
    cases mx <;> rcases d.bits_cases with h | h | h <;> exact tailMem_bytes rest (by rw [encode, h]; rfl)
  | itofMx mx rs d rd =>
    have hp := fpu_present (Instr.hasFpu_of_installed hi rfl)
    cases mx <;> rcases d.bits_cases with h | h | h <;>
      exact tailMem_bytes rest (.trans (by rw [encode, h]; rfl) (hp _))
  | emulMx mx rs d rd | emuluMx mx rs d rd =>
    cases mx <;> rcases d.bits_cases with h | h | h <;> exact tailMemPair_bytes rest hw (by rw [encode, h]; rfl)
  | adcMem rs d rd | sbbMem rs d rd =>
    rcases d.bits_cases with h | h | h <;> exact tailMem_bytes rest (by rw [encode, h]; rfl)
  | _ => cases hf

theorem decode_encode_move (hf : i.form = .move) (hw : i.wellFormed = true) :
    decode p (encode i ++ rest) = .instr i rest := by
  cases i with
  | movStoreD5 sz rs d rd =>
    cases sz <;> rcases bitVec3_cases (d.extractLsb' 2 3) with h | h | h | h | h | h | h | h <;>
      exact dsp5_bytes (k := fun d rd rs => .movStoreD5 _ rs d rd) rest rfl (by rw [encode, h]; rfl)
  | movLoadD5 sz d rs rd =>
    cases sz <;> rcases bitVec3_cases (d.extractLsb' 2 3) with h | h | h | h | h | h | h | h <;>
      exact dsp5_bytes (k := .movLoadD5 _) rest rfl (by rw [encode, h]; rfl)
  | movuLoadD5 sz d rs rd =>
    cases sz <;> rcases bitVec3_cases (d.extractLsb' 2 3) with h | h | h | h | h | h | h | h <;>
      exact dsp5_bytes (k := .movuLoadD5 _) rest rfl (by rw [encode, h]; rfl)
  | movUimm4 imm rd => exact imm4_bytes rest rfl
  | movImmD5 sz imm d rd =>
    obtain ⟨h7, h4, h0⟩ := fld_append134 (d.extractLsb' 4 1) (low rd) (d.extractLsb' 0 4)
    refine Eq.trans (b := .instr (.movImmD5 sz imm _ (hiLow _)) rest) (by cases sz <;> rfl) ?_
    rw [h7, h0, append_imm5, show hiLow _ = rd from congrArg BitVec.toFin h4]
  | movUimm8 imm rd => simp [encode, decode_75, decode74, fld_75, fld_append44_hi, loReg_append]
  | movImm imm rd => simp [encode, decode_FB, decodeF8, fld_FB, fld_append422_lo, fld_append422_mid, hiReg_append422]
  | movRR sz rs rd =>
    refine Eq.trans (b := .instr (.movRR sz (hiReg (nib rs ++ nib rd)) (loReg _)) rest) (by cases sz <;> rfl) ?_
    rw [hiReg_append, loReg_append]
  | movImmMem sz imm rd d =>
    have hok : imm.fitsMov sz = true := hw
    simp [encode, decode_F8, decodeF8, fld_append62_lo, fld_append422_lo, fld_append422_mid, hiReg_append422,
      d.bits_ne, Size.ofBits_bits, field_some, movLiOk_bits, hok]
  | movLoad sz rs d rd | movStore sz rs rd d =>
    simp [encode, decode_CE, decodeCE, fld_append2222, Size.ofBits_bits, field_some, hiReg_append, loReg_append,
      d.bits_ne]
  | movMemMem sz rs ds rd dd =>
    simp [encode, decode_CE, decodeCE, fld_append2222, Size.ofBits_bits, field_some, hiReg_append, loReg_append,
      ds.bits_ne, dd.bits_ne]
  | movLoadIdx sz ri rb rd | movStoreIdx sz rs ri rb =>
    cases sz <;> simp [encode, decode_FE, decodeFE, fld_append44_sub, Size.bits, Size.ofBits, field, hiReg_append,
      loReg_append]
  | movuLoadIdx sz ri rb rd =>
    cases sz <;> simp [encode, decode_FE, decodeFE, fld_append44_sub, MovuSize.bits, MovuSize.ofBits, hiReg_append,
      loReg_append]
  | movStoreAuto mode sz rs rd =>
    cases mode <;> cases sz <;> exact tail2_bytes (k := fun rd rs => .movStoreAuto _ _ rs rd) rest rfl
  | movLoadAuto mode sz rs rd | movuLoadAuto mode sz rs rd => cases mode <;> cases sz <;> exact tail2_bytes rest rfl
  | pushMem sz rs d =>
    simp [encode, decode_F4, decodeF0, fld_append62_lo, fld_append62_sub, fld_append422_lo, fld_append422_mid,
      d.bits_ne, hiReg_append422, Size.ofBits_bits, field_some]
  | _ => cases hf

theorem decode_encode_bit (hf : i.form = .bit) (hw : i.wellFormed = true) :
    decode p (encode i ++ rest) = .instr i rest := by
  cases i with
  | bclrImmMem imm rd d | bsetImmMem imm rd d | btstImmMem imm rd d =>
    simp [encode, decode_F0, decode_F4, decodeF0, fld_append62_lo, fld_append62_sub, fld_append413_lo,
      fld_append413_mid, d.bits_ne, hiReg_append413]
  | bsetRMem rs rd d =>
    rcases d.bits_cases with h | h | h <;> exact tailBit_bytes (k := .bsetRR) rest (by rw [encode, h]; rfl)
  | bclrRMem rs rd d =>
    rcases d.bits_cases with h | h | h <;> exact tailBit_bytes (k := .bclrRR) rest (by rw [encode, h]; rfl)
  | btstRMem rs rd d =>
    rcases d.bits_cases with h | h | h <;> exact tailBit_bytes (k := .btstRR) rest (by rw [encode, h]; rfl)
  | bnotRMem rs rd d =>
    rcases d.bits_cases with h | h | h <;> exact tailBit_bytes (k := .bnotRR) rest (by rw [encode, h]; rfl)
  | bsetRR rs rd => exact tailBit_reg (m := .bsetRMem) rest rfl
  | bclrRR rs rd => exact tailBit_reg (m := .bclrRMem) rest rfl
  | btstRR rs rd => exact tailBit_reg (m := .btstRMem) rest rfl
  | bnotRR rs rd => exact tailBit_reg (m := .bnotRMem) rest rfl
  | bclrImm imm rd | bsetImm imm rd | btstImm imm rd =>
    rcases bitVec1_cases (imm.extractLsb' 4 1) with h | h <;> exact imm5_bytes rest (by rw [encode, h]; rfl)
  | bmcndMem cd imm rd d | bnotImmMem imm rd d =>
    simp [encode, decode_FC_bm, decodeBm, Cond.bits_ne_fifteen, Cond.ofBits_bits, field_some, fld_append44_lo,
      hiReg_append, d.bits_ne]
  | bmcndR cd imm rd | bnotImm imm rd =>
    simp [encode, decode_FD, decodeFD, fld_append35_hi, fld_append35_lo, fld_append44_hi, loReg_append,
      Cond.bits_ne_fifteen, Cond.ofBits_bits, field_some]
  | sccnd cd sz dst =>
    have hfit := RegOrMem.fitsScc_bits (show dst.fitsScc sz = true from hw)
    simp [encode, decode_FC_scc, decodeScc, Size.ofBits_bits, Cond.ofBits_bits, field_some, fld_append44_lo,
      hiReg_append, dst.regBits_eq]
    exact hfit
  | _ => cases hf

theorem decode_encode_other (hf : i.form = .other) (hw : i.wellFormed = true) (hi : i.installed p = true) :
    decode p (encode i ++ rest) = .instr i rest := by
  cases i with
  -- two and three registers
  | absRR rs rd | adcRR rs rd | negRR rs rd | notRR rs rd | sbbRR rs rd | rotlRR rs rd | rotrRR rs rd | sharRR rs rd
  | shllRR rs rd | shlrRR rs rd | revl rs rd | revw rs rd | machi rs rd | maclo rs rd | mulhi rs rd | mullo rs rd =>
    exact tail2_bytes rest rfl
  | addRRR rs rs2 rd | andRRR rs rs2 rd | mulRRR rs rs2 rd | orRRR rs rs2 rd | subRRR rs rs2 rd =>
    simp [encode, decode_FF, decodeFF, fld_append44_hi, hiReg_append, loReg_append]
  | pushm first last | popm first last => exact tailRange_bytes rest hw rfl
  -- immediates
  | adcImm imm rd | divImm imm rd | divuImm imm rd | maxImm imm rd | minImm imm rd | stnz imm rd | stz imm rd
  | tstImm imm rd | xorImm imm rd =>
    simp [encode, decode_FD7, decodeFD7, fld_append422_lo, fld_append422_mid, fld_append44_hi, loReg_append]
  | emulImm imm rd | emuluImm imm rd =>
    have hrd : rd.pairOk = true := hw
    simp [encode, decode_FD7, decodeFD7, fld_append422_lo, fld_append422_mid, fld_append44_hi, loReg_append, hrd]
  | faddImm imm rd | fcmpImm imm rd | fdivImm imm rd | fmulImm imm rd | fsubImm imm rd =>
    simp [encode, decode_FD72, decodeFD7, fld_72, fld_append44_hi, loReg_append,
      fpu_present (Instr.hasFpu_of_installed hi rfl)]
  | addImm3 imm rs2 rd => simp [encode, decode_70, hiReg_append, loReg_append]
  | andImm imm rd | cmpImm imm rd | mulImm imm rd | orImm imm rd =>
    simp [encode, decode_74, decode74, fld_append62_lo, fld_append44_hi, loReg_append]
  | cmpUimm8 imm rd => simp [encode, decode_75, decode74, fld_75, fld_append44_hi, loReg_append]
  | addUimm4 imm rd | andUimm4 imm rd | cmpUimm4 imm rd | mulUimm4 imm rd | orUimm4 imm rd | subUimm4 imm rd =>
    exact imm4_bytes rest rfl
  | sharImm imm rd | shllImm imm rd | shlrImm imm rd | rotlImm imm rd | rotrImm imm rd =>
    rcases bitVec1_cases (imm.extractLsb' 4 1) with h | h <;> exact imm5_bytes rest (by rw [encode, h]; rfl)
  | sharImm3 imm rs2 rd | shllImm3 imm rs2 rd | shlrImm3 imm rs2 rd =>
    simp [encode, decode_FD, decodeFD, fld_append35_hi, fld_append35_lo, hiReg_append, loReg_append]
  -- one register
  | absR rd | negR rd | notR rd | sat rd | rolc rd | rorc rd | pop rd =>
    simp [encode, decode_7E, decode7E, fld_append44_hi, loReg_append]
  | pushR sz rs => cases sz <;> simp [encode, decode_7E, decode7E, fld_append44_hi, loReg_append, Size.bits]
  | jmp rs | jsr rs | braL rs | bsrL rs => simp [encode, decode_7F, decode7F, fld_append44_hi, loReg_append]
  | mvfachi rd | mvfacmi rd | mvtachi rd | mvtaclo rd =>
    simp [encode, decode_FD_acc, decodeDsp, fld_append44_hi, loReg_append]
  -- control registers and bits
  | pushc cr => cases cr <;> rfl
  | popc cr => cases cr with | pc => cases hw | _ => rfl
  | mvtcImm imm cr =>
    have hcr : cr.writable = true := hw
    simp [encode, decode_FD7, decodeFD7, fld_append422_lo, fld_append422_mid, fld_append44_hi, fld_append44_lo,
      CReg.ofBits_bits, field_some, hcr]
  | mvtcR rs cr =>
    have hcr : cr.writable = true := hw
    simp [encode, decode_FD_control, decodeFD6, fld_68, fld_append44_lo, CReg.ofBits_bits, field_some, hcr,
      hiReg_append]
  | mvfc cr rd =>
    simp [encode, decode_FD_control, decodeFD6, fld_6A, fld_append44_hi, CReg.ofBits_bits, field_some, loReg_append]
  | setpsw cb | clrpsw cb => cases cb <;> rfl
  | mvtipl imm =>
    refine (if_pos (Instr.hasMvtipl_of_installed hi rfl)).trans ?_
    simp [fld_append44_hi, fld_append44_lo]
  -- branches
  | bcndS c dist => cases c <;> rcases bitVec3_cases dist with rfl | rfl | rfl | rfl | rfl | rfl | rfl | rfl <;> rfl
  | bcndB cd disp => cases cd <;> rfl
  | bcndW c disp => cases c with
    | eq => exact take16_le16 disp rest fun d r => .instr (.bcndW .eq d) r
    | ne => exact take16_le16 disp rest fun d r => .instr (.bcndW .ne d) r
  | braS dist => rcases bitVec3_cases dist with rfl | rfl | rfl | rfl | rfl | rfl | rfl | rfl <;> rfl
  | braW disp => exact take16_le16 disp rest fun d r => .instr (.braW d) r
  | bsrW disp => exact take16_le16 disp rest fun d r => .instr (.bsrW d) r
  | braA disp => exact take24_le24 disp rest fun d r => .instr (.braA d) r
  | bsrA disp => exact take24_le24 disp rest fun d r => .instr (.bsrA d) r
  | rtsdRange imm first last =>
    have hr : (first.val != 0 && last.val != 0) = true := hw
    refine Eq.trans (b := decodeRtsdRange ((nib first ++ nib last) :: imm :: rest)) rfl ?_
    simp only [Bool.and_eq_true, bne_iff_ne] at hr
    simp only [decodeRtsdRange, take1_cons, hiReg_append, loReg_append, hr.1, hr.2, or_self, if_false]
  -- fixed bytes and sizes
  | rmpa sz | sstr sz | suntil sz | swhile sz => cases sz <;> rfl
  | racw imm => rcases bitVec1_cases imm with rfl | rfl <;> rfl
  | braB | rtsd | int | satr | scmpu | smovb | smovf | smovu | rte | rtfi | wait | brk | rts | nop => rfl
  | _ => cases hf

end ReadBack

/-- Settles O1, by the form of the operands. -/
theorem decodeInvertsEncode : Obligations.DecodeInvertsEncode := by
  intro p i rest hw hi
  cases hf : i.form with
  | source => exact decode_encode_source rest hf hw hi
  | move => exact decode_encode_move rest hf hw
  | bit => exact decode_encode_bit rest hf hw
  | other => exact decode_encode_other rest hf hw hi

/-- Settles O2: every page of the decoder reads only what the encoder writes. -/
theorem decodeReadsOnlyEncodings : Obligations.DecodeReadsOnlyEncodings :=
  fun p bytes rest i h => reads_decode p bytes i rest h

end Sys2Proof
end

section
/-! Register ranges (R386, R389, R447): the registers and the longwords of a range in order, the registers a range of
reads leaves, and the memory a range of writes leaves. -/

namespace Sys2Proof

/-! ### The registers of a range -/

theorem regRange_map_val (first last : Reg) :
    (regRange first last).map Fin.val = List.range' first.val (last.val + 1 - first.val) := by
  revert first last
  decide

theorem regRange_length (first last : Reg) : (regRange first last).length = last.val + 1 - first.val := by
  simpa using congrArg List.length (regRange_map_val first last)

theorem regRange_getElem_val (first last : Reg) (k : Nat) (h : k < (regRange first last).length) :
    (regRange first last)[k].val = first.val + k := by
  have hval := List.getElem_map Fin.val (l := regRange first last) (i := k) (h := by simpa using h)
  rw [← hval]
  simp [regRange_map_val]

theorem mem_regRange {first last r : Reg} : r ∈ regRange first last ↔ first ≤ r ∧ r ≤ last := by
  simp [regRange]

theorem regRange_nodup (first last : Reg) : (regRange first last).Nodup := (List.nodup_finRange 16).filter _

theorem regRange_getElem_of_mem {first last r : Reg} (hf : first ≤ r) (hl : r ≤ last) :
    ∃ h : r.val - first.val < (regRange first last).length, (regRange first last)[r.val - first.val] = r := by
  have hf' : first.val ≤ r.val := hf
  have hl' : r.val ≤ last.val := hl
  have hlt : r.val - first.val < (regRange first last).length := by
    rw [regRange_length]
    omega
  exact ⟨hlt, Fin.ext (by rw [regRange_getElem_val]; omega)⟩

end Sys2Proof

namespace Sys2Proof.Machine

/-! ### The longwords of a range -/

theorem mem_longwords {a b : Word} {n : Nat} : b ∈ longwords a n ↔ ∃ k < n, b = a + 4 * BitVec.ofNat 32 k := by
  simp [longwords, eq_comm]

/-- The k-th longword of n that end at `a`, counted from the top. -/
theorem sub_longs_add (a : Word) {k n : Nat} (h : k ≤ n) :
    a - 4 * BitVec.ofNat 32 n + 4 * BitVec.ofNat 32 k = a - 4 * BitVec.ofNat 32 (n - k) := by
  obtain ⟨m, rfl⟩ := Nat.exists_eq_add_of_le h
  rw [Nat.add_sub_cancel_left, BitVec.ofNat_add]
  ring

theorem long_add_byte (a : Word) (k j : Nat) :
    a + 4 * BitVec.ofNat 32 k + BitVec.ofNat 32 j = a + BitVec.ofNat 32 (4 * k + j) := by
  rw [BitVec.ofNat_add, BitVec.ofNat_mul, BitVec.add_assoc]
  rfl

/-! ### Registers written in order -/

theorem State.reg_setRegs_of_notMem (s : State) {rs : List Reg} {r : Reg} (h : r ∉ rs) (vs : List Word) :
    (s.setRegs rs vs).reg r = s.reg r := by
  induction rs generalizing s vs with
  | nil => rfl
  | cons q rs ih =>
    cases vs with
    | nil => rfl
    | cons v vs =>
      obtain ⟨hq, hrs⟩ := not_or.1 (mt List.mem_cons.2 h)
      exact (ih (s.setReg q v) hrs vs).trans (s.reg_setReg_ne v hq)

theorem State.reg_setRegs_getElem (s : State) {rs : List Reg} (hnd : rs.Nodup) (vs : List Word) (k : Nat)
    (hr : k < rs.length) (hv : k < vs.length) : (s.setRegs rs vs).reg rs[k] = vs[k] := by
  induction rs generalizing s vs k with
  | nil => cases hr
  | cons q rs ih =>
    obtain ⟨hq, hrs⟩ := List.nodup_cons.1 hnd
    cases vs with
    | nil => cases hv
    | cons v vs =>
      cases k with
      | zero => exact ((s.setReg q v).reg_setRegs_of_notMem hq vs).trans (s.reg_setReg_same q v)
      | succ k => exact ih (s.setReg q v) hrs vs k (Nat.lt_of_succ_lt_succ hr) (Nat.lt_of_succ_lt_succ hv)

/-! ### Frames of writes -/

namespace FrameStore

variable {regs : List Reg} {a : Word} {n : Nat} {s t : State}

theorem refl (regs : List Reg) (a : Word) (n : Nat) (s : State) : FrameStore regs a n s s :=
  ⟨.refl regs s, rfl, .refl s, rfl, rfl, fun _ _ => rfl⟩

theorem setRegs (h : FrameStore regs a n s t) {rs : List Reg} (hrs : rs ⊆ regs) (vs : List Word) :
    FrameStore regs a n s (t.setRegs rs vs) := by
  induction rs generalizing t vs with
  | nil => exact h
  | cons r rs ih =>
    obtain ⟨hr, hrs⟩ := List.cons_subset.1 hrs
    cases vs with
    | nil => exact h
    | cons v vs => exact ih (h.setReg hr v) hrs vs

/-- A longword stored inside the bytes that may change. -/
theorem pokeLong (h : FrameStore regs a n s t) {k : Nat} (hk : 4 * k + 4 ≤ n) (v : Word) :
    FrameStore regs a n s (t.poke (a + 4 * BitVec.ofNat 32 k) .l v) where
  regs := ⟨fun r hr => (t.reg_poke _ _ _ r).trans (h.regs.regs r hr), (t.otherSp_poke _ _ _).trans h.regs.otherSp⟩
  psw := by simpa using h.psw
  control := h.control.poke _ _ _
  fpsw := by simpa using h.fpsw
  acc := by simpa using h.acc
  memory b hb := by
    refine (t.byteAt_poke_ne _ b .l v fun j hj => ?_).trans (h.memory b hb)
    rw [long_add_byte]
    have hj4 : j < 4 := hj
    exact hb _ (by omega)

theorem sameMemory (h : FrameStore regs a 0 s t) : SameMemory s t := fun b => h.memory b (by simp)

end FrameStore

/-! ### Longwords written in order -/

/-- Longword writes, one after the other. -/
def State.pokes (s : State) (ws : List (Word × Word)) : State := ws.foldl (fun t w => t.poke w.1 .l w.2) s

theorem State.storeAll_eq (s : State) (ws : List (Word × Word)) (k : State → Out)
    (h : ∀ w ∈ ws, s.Writable w.1 4) : s.storeAll ws k = k (s.pokes ws) :=
  if_neg (by simpa [List.any_eq_true] using h)

theorem State.loadAll_eq (s : State) (as : List Word) (k : List Word → Out) (h : ∀ a ∈ as, s.Readable a 4) :
    s.loadAll as k = k (as.map fun a => s.peek a .l) :=
  if_neg (by simpa [List.any_eq_true] using h)

theorem FrameStore.pokes {regs : List Reg} {a : Word} {n : Nat} {s t : State} (h : FrameStore regs a (4 * n) s t)
    {ws : List (Word × Word)} (hws : ∀ w ∈ ws, w.1 ∈ longwords a n) : FrameStore regs a (4 * n) s (t.pokes ws) := by
  induction ws generalizing t with
  | nil => exact h
  | cons w ws ih =>
    obtain ⟨hw, hws⟩ := List.forall_mem_cons.1 hws
    obtain ⟨k, hk, hkw⟩ := mem_longwords.1 hw
    exact ih (by simpa only [hkw] using h.pokeLong (k := k) (by omega) w.2) hws

/-- The longwords at two addresses have no byte in common. -/
def LongsApart (a b : Word) : Prop := ∀ j < 4, ∀ k < 4, a + BitVec.ofNat 32 j ≠ b + BitVec.ofNat 32 k

theorem LongsApart.symm {a b : Word} (h : LongsApart a b) : LongsApart b a := fun j hj k hk he => h k hk j hj he.symm

theorem longwords_apart (a : Word) {n : Nat} (hn : n < 2 ^ 29) : (longwords a n).Pairwise LongsApart := by
  refine List.pairwise_map.2 (List.pairwise_lt_range.imp_of_mem fun {k m} hk hm hlt i hi j hj he => ?_)
  rw [long_add_byte, long_add_byte] at he
  have hk' := List.mem_range.1 hk
  have hm' := List.mem_range.1 hm
  have := add_ofNat_inj (by omega) (by omega) he
  omega

theorem State.peek_poke_apart (s : State) {a b : Word} (h : LongsApart a b) (v : Word) :
    (s.poke b .l v).peek a .l = s.peek a .l :=
  State.peek_congr (by simp) fun j hj => s.byteAt_poke_ne b _ .l v fun k hk => h j hj k hk

theorem State.peek_pokes_apart (s : State) {a : Word} {ws : List (Word × Word)} (h : ∀ w ∈ ws, LongsApart a w.1) :
    (s.pokes ws).peek a .l = s.peek a .l := by
  induction ws generalizing s with
  | nil => rfl
  | cons w ws ih =>
    obtain ⟨hw, hws⟩ := List.forall_mem_cons.1 h
    exact (ih (s.poke w.1 .l w.2) hws).trans (s.peek_poke_apart hw w.2)

/-- Of longwords that are apart, each is read back. -/
theorem State.peek_pokes_of_mem (s : State) {ws : List (Word × Word)} {w : Word × Word}
    (hap : ws.Pairwise fun v w => LongsApart v.1 w.1) (hm : Memory.wf s.mem = true) (hw : w ∈ ws) :
    (s.pokes ws).peek w.1 .l = w.2 := by
  induction ws generalizing s with
  | nil => cases hw
  | cons v ws ih =>
    obtain ⟨hv, hws⟩ := List.pairwise_cons.1 hap
    rcases List.mem_cons.1 hw with rfl | hw
    · exact ((s.poke w.1 .l w.2).peek_pokes_apart hv).trans (s.peek_poke_same w.1 .l w.2 hm)
    · exact ih (s.poke v.1 .l v.2) hws (s.poke_wf v.1 .l v.2 hm) hw

/-! ### PUSHM and POPM -/

/-- What PUSHM writes: the registers of the range at rising addresses, the highest register first (R389). -/
def State.saved (s : State) (bottom : Word) (rs : List Reg) : List (Word × Word) :=
  ((longwords bottom rs.length).zip (rs.map s.reg)).reverse

theorem State.saved_addresses (s : State) (bottom : Word) (rs : List Reg) :
    (s.saved bottom rs).map Prod.fst = (longwords bottom rs.length).reverse := by
  rw [State.saved, List.map_reverse, List.map_fst_zip (by simp [longwords])]

theorem State.saved_apart (s : State) (bottom : Word) {rs : List Reg} (h : rs.length < 2 ^ 29) :
    (s.saved bottom rs).Pairwise fun v w => LongsApart v.1 w.1 := by
  rw [← List.pairwise_map (f := Prod.fst), s.saved_addresses, List.pairwise_reverse]
  exact (longwords_apart bottom h).imp LongsApart.symm

theorem State.mem_longwords_of_mem_saved {s : State} {bottom : Word} {rs : List Reg} {w : Word × Word}
    (h : w ∈ s.saved bottom rs) : w.1 ∈ longwords bottom rs.length := by
  rw [← List.mem_reverse, ← s.saved_addresses]
  exact List.mem_map_of_mem h

theorem State.mem_saved (s : State) (bottom : Word) (rs : List Reg) (k : Nat) (hk : k < rs.length) :
    (bottom + 4 * BitVec.ofNat 32 k, s.reg rs[k]) ∈ s.saved bottom rs := by
  refine List.mem_reverse.2 (List.mem_iff_getElem.2 ⟨k, by simpa [longwords] using hk, ?_⟩)
  simp [longwords]

/-- The lowest address a push of n registers writes. -/
def State.bottom (s : State) (n : Nat) : Word := s.reg 0 - 4 * BitVec.ofNat 32 n

theorem State.bottom_add (s : State) {k n : Nat} (h : k ≤ n) :
    s.bottom n + 4 * BitVec.ofNat 32 k = s.reg 0 - 4 * BitVec.ofNat 32 (n - k) := sub_longs_add _ h

/-- The state after the registers are pushed (R389). -/
def State.pushedRange (s : State) (rs : List Reg) : State :=
  (s.pokes (s.saved (s.bottom rs.length) rs)).setReg 0 (s.bottom rs.length)

theorem State.pushm_eq (s : State) {first last : Reg} (hlt : first < last)
    (hw : ∀ k < (regRange first last).length, s.Writable (s.reg 0 - 4 * BitVec.ofNat 32 (k + 1)) 4) :
    exec (.pushm first last) s = .next ((s.pushedRange (regRange first last)).advance 2) := by
  refine (if_pos hlt).trans (s.storeAll_eq (s.saved (s.bottom _) (regRange first last)) _ fun w hmw => ?_)
  obtain ⟨k, hk, hkw⟩ := mem_longwords.1 (State.mem_longwords_of_mem_saved hmw)
  rw [hkw, s.bottom_add hk.le, ← Nat.sub_add_cancel (Nat.sub_pos_of_lt hk)]
  exact hw _ (by omega)

theorem State.pushedRange_frame (s : State) (rs : List Reg) :
    FrameStore [0] (s.bottom rs.length) (4 * rs.length) s (s.pushedRange rs) :=
  ((FrameStore.refl _ _ _ s).pokes fun _ => State.mem_longwords_of_mem_saved).setReg (List.mem_singleton.2 rfl) _

theorem State.pushedRange_pc (s : State) (rs : List Reg) : (s.pushedRange rs).pc = s.pc := by
  have hpokes (ws : List (Word × Word)) (t : State) : (t.pokes ws).pc = t.pc := by
    induction ws generalizing t with
    | nil => rfl
    | cons w ws ih => exact (ih (t.poke w.1 .l w.2)).trans (t.poke_pc ..)
  rw [State.pushedRange, State.setReg_pc, hpokes]

/-- Each register pushed is read back from its own longword. -/
theorem State.pushedRange_peek (s : State) (rs : List Reg) (hm : Memory.wf s.mem = true) (hn : rs.length < 2 ^ 29)
    (k : Nat) (hk : k < rs.length) :
    (s.pushedRange rs).peek (s.reg 0 - 4 * BitVec.ofNat 32 (rs.length - k)) .l = s.reg rs[k] := by
  rw [← s.bottom_add hk.le, State.pushedRange, State.peek_setReg]
  exact s.peek_pokes_of_mem (w := (_, s.reg rs[k])) (s.saved_apart _ hn) hm (s.mem_saved _ rs k hk)

theorem regRange_length_of_le {first last : Reg} (h : first ≤ last) :
    (regRange first last).length = last.val - first.val + 1 := by
  rw [regRange_length]
  exact Nat.sub_add_comm h

/-- PUSHM of a range stores it and changes R0 and the stack alone (R389). -/
theorem pushm_completes (s : State) {first last : Reg} (hm : Memory.wf s.mem = true) (hlt : first < last) {n : Nat}
    (hn : (regRange first last).length = n)
    (hw : ∀ k < n, s.Writable (s.reg 0 - 4 * BitVec.ofNat 32 (k + 1)) 4) :
    Completes (.pushm first last) s fun t => t.reg 0 = s.reg 0 - 4 * BitVec.ofNat 32 n ∧ t.pc = s.after 2 ∧
      (∀ r, first ≤ r → r ≤ last →
        t.peek (s.reg 0 - 4 * BitVec.ofNat 32 (last.val - r.val + 1)) .l = s.reg r) ∧
      FrameStore [0] (s.reg 0 - 4 * BitVec.ofNat 32 n) (4 * n) s t := by
  subst hn
  refine ⟨_, s.pushm_eq hlt hw, State.reg_setReg_same _ 0 _, ?_, fun r hf hl => ?_, (s.pushedRange_frame _).advance 2⟩
  · rw [State.advance_pc, State.after, State.pushedRange_pc, State.after]
  · obtain ⟨hk, hget⟩ := regRange_getElem_of_mem hf hl
    have hfr : first.val ≤ r.val := hf
    have hrl : r.val ≤ last.val := hl
    have hlen := regRange_length first last
    have hpeek := s.pushedRange_peek _ hm (by omega) _ hk
    rw [hget, show (regRange first last).length - (r.val - first.val) = last.val - r.val + 1 by omega] at hpeek
    rwa [State.peek_advance]

/-- The state after R0, the registers of a range and the PC are reloaded (R386, R447). -/
def State.reload (s : State) (sp : Word) (rs : List Reg) (vs : List Word) (pc : Word) : State :=
  ((s.setSp sp).setRegs rs vs).goto pc

theorem State.next_reload (s : State) (sp : Word) (rs : List Reg) (vs : List Word) {pc pc' : Word} (h : pc = pc') :
    (.next (((s.setSp sp).setRegs rs vs).goto pc) : Out) = .next (s.reload sp rs vs pc') := h ▸ rfl

theorem State.setRegs_pc (s : State) (rs : List Reg) (vs : List Word) : (s.setRegs rs vs).pc = s.pc := by
  unfold State.setRegs
  induction rs.zip vs generalizing s with
  | nil => rfl
  | cons p ps ih => exact (ih (s.setReg p.1 p.2)).trans (s.setReg_pc ..)

theorem State.reload_frame (s : State) (sp : Word) (rs : List Reg) (vs : List Word) (pc : Word) :
    FrameStore (0 :: rs) 0 0 s (s.reload sp rs vs pc) :=
  (((FrameStore.refl _ _ _ s).setReg (List.mem_cons_self ..) sp).setRegs (List.subset_cons_self ..) vs).goto pc

/-- Reloading a range changes no register outside it but R0, and neither PSW, FPSW, ACC nor memory. -/
theorem State.reload_rest (s : State) (sp : Word) (first last : Reg) (vs : List Word) (pc : Word) {t : State}
    (ht : t = s.reload sp (regRange first last) vs pc) :
    (∀ r, r ≠ 0 → (r < first ∨ last < r) → t.reg r = s.reg r) ∧ t.otherSp = s.otherSp ∧ t.psw = s.psw ∧
      SameControl s t ∧ t.fpsw = s.fpsw ∧ t.acc = s.acc ∧ SameMemory s t := by
  have hframe : FrameStore (0 :: regRange first last) 0 0 s t := ht ▸ s.reload_frame sp _ vs pc
  refine ⟨fun r hr hout => hframe.regs.regs r ?_, hframe.regs.otherSp, hframe.psw, hframe.control, hframe.fpsw,
    hframe.acc, hframe.sameMemory⟩
  rw [List.mem_cons, mem_regRange]
  rintro (rfl | ⟨hf, hl⟩)
  · exact hr rfl
  · exact hout.elim (not_lt.2 hf) (not_lt.2 hl)

theorem State.reload_sp (s : State) (sp : Word) {first : Reg} (h0 : 0 < first.val) (last : Reg) (vs : List Word)
    (pc : Word) : (s.reload sp (regRange first last) vs pc).reg 0 = sp := by
  have hzero : (0 : Reg) ∉ regRange first last := fun h => absurd (mem_regRange.1 h).1 (not_le.2 h0)
  exact ((s.setSp sp).reg_setRegs_of_notMem hzero vs).trans (s.reg_setReg_same 0 sp)

/-- The longwords from `a` on, as read. -/
def State.peeks (s : State) (a : Word) (n : Nat) : List Word := (longwords a n).map fun b => s.peek b .l

theorem State.peeks_length (s : State) (a : Word) (n : Nat) : (s.peeks a n).length = n := by
  simp [State.peeks, longwords]

theorem State.peeks_getElem (s : State) (a : Word) {n k : Nat} (hk : k < (s.peeks a n).length) :
    (s.peeks a n)[k] = s.peek (a + 4 * BitVec.ofNat 32 k) .l := by simp [State.peeks, longwords]

theorem State.peeks_getLastD (s : State) (a : Word) (n : Nat) :
    (s.peeks a (n + 1)).getLastD 0 = s.peek (a + 4 * BitVec.ofNat 32 n) .l := by
  simp [State.peeks, longwords, List.range_succ]

/-- A register of the range is loaded from its own longword. -/
theorem State.reload_reg (s : State) (sp a pc : Word) {first last r : Reg} {n : Nat}
    (hn : (regRange first last).length ≤ n) (hf : first ≤ r) (hl : r ≤ last) :
    (s.reload sp (regRange first last) (s.peeks a n) pc).reg r =
      s.peek (a + 4 * BitVec.ofNat 32 (r.val - first.val)) .l := by
  obtain ⟨hk, hget⟩ := regRange_getElem_of_mem hf hl
  have hv : r.val - first.val < (s.peeks a n).length := (s.peeks_length a n).symm ▸ hk.trans_le hn
  have hreg := (s.setSp sp).reg_setRegs_getElem (regRange_nodup first last) (s.peeks a n) _ hk hv
  rw [hget, s.peeks_getElem] at hreg
  exact hreg

theorem State.loadAll_peeks (s : State) (a : Word) (n : Nat) (k : List Word → Out)
    (h : ∀ k < n, s.Readable (a + 4 * BitVec.ofNat 32 k) 4) : s.loadAll (longwords a n) k = k (s.peeks a n) :=
  s.loadAll_eq _ _ fun b hb => by
    obtain ⟨k, hk, rfl⟩ := mem_longwords.1 hb
    exact h k hk

theorem State.popm_eq (s : State) {first last : Reg} (hlt : first < last) {n : Nat}
    (hn : (regRange first last).length = n) (hr : ∀ k < n, s.Readable (s.reg 0 + 4 * BitVec.ofNat 32 k) 4) :
    exec (.popm first last) s =
      .next (s.reload (s.reg 0 + 4 * BitVec.ofNat 32 n) (regRange first last) (s.peeks (s.reg 0) n) (s.after 2)) := by
  subst hn
  refine ((if_pos hlt).trans (s.loadAll_peeks _ _ _ hr)).trans
    (s.next_reload _ _ _ ?_)
  rw [State.after, State.setRegs_pc, State.setSp_pc, State.after]

/-- Settles O43: PUSHM by what its writes leave, POPM by what its reads reload. -/
theorem rangesMoveInRegisterOrder : Obligations.RangesMoveInRegisterOrder := by
  intro s first last n hm h0
  refine ⟨fun hge => ⟨if_neg hge, if_neg hge⟩, fun hlt hn => ?_⟩
  have hlen : (regRange first last).length = n := (regRange_length_of_le hlt.le).trans hn.symm
  exact ⟨pushm_completes s hm hlt hlen, fun hr => ⟨_, s.popm_eq hlt hlen hr, s.reload_sp _ h0 _ _ _, rfl,
    fun r hf hl => s.reload_reg _ _ _ hlen.le hf hl, s.reload_rest _ _ _ _ _ rfl⟩⟩

/-! ### RTS and RTSD -/

/-- RTSD (2) of a range that fits the frame: the longwords below the return address, and that address last (R447). -/
theorem State.rtsdRange_eq (s : State) (imm : BitVec 8) {first last : Reg} (hle : first ≤ last) {n : Nat}
    (hn : (regRange first last).length = n) (hfit : n ≤ imm.toNat) {top : Word} (htop : top = s.reg 0 + frameSize imm)
    (hr : ∀ k ≤ n, s.Readable (top - 4 * BitVec.ofNat 32 k) 4) :
    exec (.rtsdRange imm first last) s = .next (s.reload (top + 4) (regRange first last)
      (s.peeks (top - 4 * BitVec.ofNat 32 n) (n + 1)) (s.peek top .l)) := by
  subst hn htop
  have hreadable : ∀ k < (regRange first last).length + 1, s.Readable
      (s.reg 0 + frameSize imm - 4 * BitVec.ofNat 32 (regRange first last).length + 4 * BitVec.ofNat 32 k) 4 :=
    fun k hk => by
      rw [sub_longs_add _ (Nat.le_of_lt_succ hk)]
      exact hr _ (Nat.sub_le ..)
  refine ((if_pos ⟨hle, hfit⟩).trans (s.loadAll_peeks _ _ _ hreadable)).trans
    (s.next_reload _ _ _ ?_)
  rw [s.peeks_getLastD, sub_longs_add _ le_rfl, Nat.sub_self]
  exact congrArg (s.peek · .l) (BitVec.sub_zero _)

/-- A return to the longword read at `a`, with R0 set. -/
theorem State.return_spec (s : State) (a sp : Word) (hr : s.Readable a 4) :
    Reaches (s.load a .l fun v => .next ((s.setSp sp).goto v)) fun t =>
      t.pc = s.peek a .l ∧ t.reg 0 = sp ∧ Frame [0] [] s t :=
  ⟨_, s.load_eq a .l _ hr, rfl, s.reg_setReg_same 0 sp,
    ((Frame.refl [0] [] s).setReg (List.mem_singleton.2 rfl) sp).goto _⟩

/-- Settles O48: RTSD (2) reloads its range from the longwords below the return address. -/
theorem returnsReleaseTheFrame : Obligations.ReturnsReleaseTheFrame := by
  intro s imm first last n top htop
  refine ⟨s.return_spec (s.reg 0) (s.reg 0 + 4), fun hr => ?_, fun h0 hn => ?_⟩
  · subst htop
    exact s.return_spec _ _ hr
  · refine ⟨fun hbad => if_neg ?_, fun hle hfit hr => ?_⟩
    · rintro ⟨hle, hfit⟩
      rw [regRange_length_of_le hle, ← hn] at hfit
      exact hbad.elim (not_lt.2 hle) (not_lt.2 hfit)
    · have hlen : (regRange first last).length = n := (regRange_length_of_le hle).trans hn.symm
      refine ⟨_, s.rtsdRange_eq imm hle hlen hfit htop hr, rfl, s.reload_sp _ h0 _ _ _, fun r hf hl => ?_,
        s.reload_rest _ _ _ _ _ rfl⟩
      have hfr : first.val ≤ r.val := hf
      have hrl : r.val ≤ last.val := hl
      rw [s.reload_reg _ _ _ (by omega) hf hl, sub_longs_add _ (by omega),
        show n - (r.val - first.val) = last.val - r.val + 1 by omega]

end Sys2Proof.Machine
end

section
/-! Opcode bytes of no instruction (R124, R171, D7): the pages of the decoder reject the reserved values of each
field. -/

namespace Sys2Proof

/-- The bytes read so far are no instruction's. -/
def Decoded.Rejected (d : Decoded) : Prop := ∃ why, d = .undefined why

namespace Decoded.Rejected

@[simp] theorem undefined (w : Reject) : (Decoded.undefined w).Rejected := ⟨w, rfl⟩

theorem ite {c : Prop} [Decidable c] {x y : Decoded} (hx : c → x.Rejected) (hy : ¬c → y.Rejected) :
    (if c then x else y).Rejected := by
  split
  · exact hx ‹_›
  · exact hy ‹_›

theorem field {α : Type} {v : Option α} {w : Reject} {k : α → Decoded} (h : ∀ a, v = some a → (k a).Rejected) :
    (field v w k).Rejected := by
  cases v with
  | none => exact undefined w
  | some a => exact h a rfl

theorem field_none {α : Type} {v : Option α} {w : Reject} {k : α → Decoded} (h : v = none) :
    (Sys2Proof.field v w k).Rejected := .field fun _ ha => absurd (h.symm.trans ha) nofun

theorem fpu {p : Product} {k : Decoded} (h : k.Rejected) : (fpu p k).Rejected := .ite (fun _ => h) fun _ => .undefined _

end Decoded.Rejected

open Decoded

theorem Rejects.of_eq {p : Product} {bytes : List Byte} {d : List Byte → Decoded}
    (h : ∀ rest, decode p (bytes ++ rest) = d rest) (hd : ∀ rest, (d rest).Rejected) : Rejects p bytes :=
  fun rest => (h rest).symm ▸ hd rest

/-! ### Fields of a byte by their places -/

theorem fld_append44_low (x y : BitVec 4) (lo w : Nat) (h : lo + w ≤ 4) : fld (x ++ y) lo w = y.extractLsb' lo w :=
  BitVec.extractLsb'_append_eq_of_add_le (xhi := x) (xlo := y) h

theorem fld_append242 (m : BitVec 2) (c : BitVec 4) (l : BitVec 2) :
    fld (m ++ c ++ l) 6 2 = m ∧ fld (m ++ c ++ l) 2 4 = c ∧ fld (m ++ c ++ l) 0 2 = l := by
  have hdrop (lo n : Nat) : fld (m ++ c ++ l) (lo + 2) n = (m ++ c).extractLsb' lo n :=
    BitVec.extractLsb'_append_eq_of_le (xhi := m ++ c) (xlo := l) (by omega)
  exact ⟨(hdrop 4 2).trans BitVec.extractLsb'_append_eq_left, (hdrop 0 4).trans BitVec.extractLsb'_append_eq_right,
    BitVec.extractLsb'_append_eq_right⟩

theorem fld_append314 (y : BitVec 3) (x : BitVec 1) (a : BitVec 4) :
    fld (y ++ x ++ a) 5 3 = y ∧ fld (y ++ x ++ a) 4 4 = y ++ x ∧ fld (y ++ x ++ a) 0 4 = a := by
  have hdrop (lo n : Nat) : fld (y ++ x ++ a) (lo + 4) n = (y ++ x).extractLsb' lo n :=
    BitVec.extractLsb'_append_eq_of_le (xhi := y ++ x) (xlo := a) (by omega)
  exact ⟨(hdrop 1 3).trans BitVec.extractLsb'_append_eq_left, (hdrop 0 4).trans BitVec.extractLsb'_eq_self,
    BitVec.extractLsb'_append_eq_right⟩

theorem fld_append431_lo (a : BitVec 4) (y : BitVec 3) (x : BitVec 1) : fld (a ++ y ++ x) 0 4 = y ++ x := by
  refine BitVec.eq_of_toNat_eq ?_
  have hy := y.isLt
  have hx := x.isLt
  simp only [toNat_fld, toNat_append_eq]
  omega

/-! ### Reserved values of the fields -/

theorem Cond.ofBits_eq_none {c : BitVec 4} (h : 14 ≤ c.toNat) : Cond.ofBits c = none := by
  unfold Cond.ofBits
  split
  case h_15 => rfl
  all_goals omega

theorem CReg.ofBits_eq_none {c : BitVec 4} (h : (4 ≤ c.toNat ∧ c.toNat ≤ 7) ∨ 13 ≤ c.toNat) :
    CReg.ofBits c = none := by
  unfold CReg.ofBits
  split
  case h_10 => rfl
  all_goals omega

/-- The values of cr that MVTC and POPC have not: the PC among them (R385, R543). -/
theorem CReg.not_writable {c : BitVec 4} (h : c.toNat = 1 ∨ (4 ≤ c.toNat ∧ c.toNat ≤ 7) ∨ 13 ≤ c.toNat) (cr : CReg)
    (hcr : CReg.ofBits c = some cr) : ¬cr.writable = true := by
  rcases h with h | h
  · rw [CReg.ofBits, h] at hcr
    obtain rfl := Option.some.inj hcr
    decide
  · rw [CReg.ofBits_eq_none h] at hcr
    cases hcr

theorem PswBit.ofBits_eq_none {c : BitVec 4} (h : (4 ≤ c.toNat ∧ c.toNat ≤ 7) ∨ 10 ≤ c.toNat) :
    PswBit.ofBits c = none := by
  unfold PswBit.ofBits
  split
  case h_7 => rfl
  all_goals omega

theorem Memex.ofBits_ne_l {m : BitVec 2} (h : m ≠ 2) : Memex.ofBits m ≠ .l := by
  rcases bitVec2_cases m with rfl | rfl | rfl | rfl
  · decide
  · decide
  · exact absurd rfl h
  · decide

section Pages

variable (p : Product) (r : List Byte)

/-! ### The pages 06, 74 to 77, 7E and 7F -/

section Page06

variable (m l : BitVec 2)

theorem decode06_notMemory (c : BitVec 4) : (decode06 p ((m ++ c ++ 3#2) :: r)).Rejected := by
  simp [decode06, fld_append242]

theorem decode06_noPattern {c : BitVec 4} (h : c.toNat = 6 ∨ c.toNat = 7 ∨ 9 ≤ c.toNat) :
    (decode06 p ((m ++ c ++ l) :: r)).Rejected := by
  simp only [decode06, take1_cons, fld_append242]
  refine .ite (fun _ => .undefined _) fun _ => ?_
  split
  case h_8 => exact .undefined _
  all_goals omega

/-- ADC and SBB have mi = 10b alone (R143). -/
theorem decode06_memex {m : BitVec 2} (h : m ≠ 2) {v : Byte} (hv : v ∈ [0x00, 0x02]) :
    (decode06 p ((m ++ 8#4 ++ l) :: v :: r)).Rejected := by
  simp only [decode06, take1_cons, fld_append242]
  refine .ite (fun _ => .undefined _) fun _ => ?_
  rcases List.mem_pair.1 hv with rfl | rfl
  · exact .ite (fun hmx => absurd hmx (Memex.ofBits_ne_l h)) fun _ => .undefined _
  · exact .ite (fun hmx => absurd hmx (Memex.ofBits_ne_l h)) fun _ => .undefined _

theorem tailMemPair_r15 (ld : BitVec 2) (a : BitVec 4) (k : Reg → Dsp → Reg → Instr) :
    (tailMemPair ld ((a ++ 15#4) :: r) k).Rejected := by
  have hrd : ¬(loReg (a ++ 15#4)).pairOk = true := by simp [loReg, fld_append44_lo, Reg.pairOk]
  exact .ite (fun h => absurd h hrd) fun _ => .undefined _

theorem decode06_pair (x : BitVec 1) (a : BitVec 4) :
    (decode06 p ((m ++ 8#4 ++ l) :: (0b0000011#7 ++ x) :: (a ++ 15#4) :: r)).Rejected := by
  simp only [decode06, take1_cons, fld_append242]
  refine .ite (fun _ => .undefined _) fun _ => ?_
  rcases bitVec1_cases x with rfl | rfl
  · exact tailMemPair_r15 ..
  · exact tailMemPair_r15 ..

theorem decode06_third {v : Byte} (h : v ∈ [0x01, 0x03, 0x0A, 0x0B, 0x0E, 0x0F] ∨ 0x12 ≤ v.toNat) :
    (decode06 p ((m ++ 8#4 ++ l) :: v :: r)).Rejected := by
  simp only [decode06, take1_cons, fld_append242]
  refine .ite (fun _ => .undefined _) fun _ => ?_
  rcases h with h | h
  · simp only [List.mem_cons, List.not_mem_nil, or_false] at h
    rcases h with rfl | rfl | rfl | rfl | rfl | rfl <;> exact .undefined _
  · simp only [BitVec.reduceToNat]
    split
    case h_13 => exact .undefined _
    all_goals omega

end Page06

theorem decode74_noPattern {b0 : Byte} {a : BitVec 4} (b : BitVec 4)
    (h : (4 ≤ a.toNat ∧ fld b0 0 2 ≠ 1) ∨ 8 ≤ a.toNat) : (decode74 p b0 ((a ++ b) :: r)).Rejected := by
  simp only [decode74, take1_cons, fld_append44_hi]
  split
  case h_9 => exact .undefined _
  case h_5 ha | h_6 ha | h_7 ha | h_8 ha =>
    exact .ite (fun hli => h.elim (fun h => absurd hli h.2) fun h => absurd ha (by omega)) fun _ => .undefined _
  all_goals omega

theorem decode75_mustBeZero {a : BitVec 4} (h : ¬a = 0#4) :
    (decode74 p 0x75#8 ((0b0111#4 ++ a) :: r)).Rejected ∧ (decode74 p 0x75#8 ((0b0110#4 ++ a) :: r)).Rejected := by
  simp [decode74, fld_append44_hi, fld_append44_lo, fld_75, h]

theorem decode75_mvtipl {a : BitVec 4} (h : ¬a = 0#4) (b : BitVec 4) :
    (decode74 p 0x75#8 (0x70#8 :: (a ++ b) :: r)).Rejected := by
  refine .ite (fun _ => ?_) fun _ => .undefined _
  simp [fld_append44_hi, h]

theorem decode7E_noPattern {a : BitVec 4} (h : a ∈ [6, 7, 13, 15]) (b : BitVec 4) :
    (decode7E ((a ++ b) :: r)).Rejected := by
  simp only [List.mem_cons, List.not_mem_nil, or_false] at h
  simp only [decode7E, take1_cons, fld_append44_hi]
  rcases h with rfl | rfl | rfl | rfl <;> exact .undefined _

theorem decode7E_pushc {c : BitVec 4} (h : CReg.ofBits c = none) : (decode7E ((0b1100#4 ++ c) :: r)).Rejected := by
  simp only [decode7E, take1_cons, fld_append44_hi, fld_append44_lo]
  exact .field_none h

theorem decode7E_popc {c : BitVec 4} (h : ∀ cr, CReg.ofBits c = some cr → ¬cr.writable = true) :
    (decode7E ((0b1110#4 ++ c) :: r)).Rejected := by
  simp only [decode7E, take1_cons, fld_append44_hi, fld_append44_lo]
  exact .field fun cr hcr => .ite (fun hw => absurd hw (h cr hcr)) fun _ => .undefined _

theorem decode7F_noPattern {a : BitVec 4} (h : a ∈ [2, 3, 6, 7] ∨ 12 ≤ a.toNat) (b : BitVec 4) :
    (decode7F ((a ++ b) :: r)).Rejected := by
  simp only [decode7F, take1_cons, fld_append44_hi]
  rcases h with h | h
  · simp only [List.mem_cons, List.not_mem_nil, or_false] at h
    rcases h with rfl | rfl | rfl | rfl <;> exact .undefined _
  · split
    case h_9 => exact .undefined _
    all_goals omega

theorem decode7F_system {b : BitVec 4} (h : b.toNat ≤ 2 ∨ 7 ≤ b.toNat) :
    (decode7F ((0b1001#4 ++ b) :: r)).Rejected := by
  simp only [decode7F, take1_cons, fld_append44_hi, fld_append44_lo, BitVec.reduceToNat]
  split
  case h_5 => exact .undefined _
  all_goals omega

theorem decode7F_bit {c : BitVec 4} (h : PswBit.ofBits c = none) :
    (decode7F ((0b1010#4 ++ c) :: r)).Rejected ∧ (decode7F ((0b1011#4 ++ c) :: r)).Rejected := by
  simp only [decode7F, take1_cons, fld_append44_hi, fld_append44_lo]
  exact ⟨.field_none h, .field_none h⟩

/-! ### The pages F0 to FB -/

theorem decodeF0_notMemory (b : Byte) : (decodeF0 0xF3#8 (b :: r)).Rejected ∧ (decodeF0 0xF7#8 (b :: r)).Rejected :=
  ⟨.undefined _, .undefined _⟩

theorem decodeF4_size (l : BitVec 2) (a : BitVec 4) :
    (decodeF0 (0b111101#6 ++ l) ((a ++ 0b1011#4) :: r)).Rejected := by
  refine .ite (fun _ => .undefined _) fun _ => ?_
  simp [fld_append62_sub, fld_append44_low, Size.ofBits, field]

theorem decodeF4_noPattern (l : BitVec 2) (a : BitVec 4) (z : BitVec 2) :
    (decodeF0 (0b111101#6 ++ l) ((a ++ 0b11#2 ++ z) :: r)).Rejected := by
  refine .ite (fun _ => .undefined _) fun _ => ?_
  simp [fld_append62_sub, fld_append422_mid]

theorem decodeF8_size (l : BitVec 2) (a : BitVec 4) (m z : BitVec 2)
    (hz : ∀ sz, Size.ofBits z = some sz → movLiOk sz m = false) (h2 : z ≠ 2) :
    (decodeF8 (0b111110#6 ++ l) ((a ++ m ++ z) :: r)).Rejected := by
  simp only [decodeF8, take1_cons, fld_append422_lo, fld_append62_lo]
  refine .ite (fun _ => .ite (fun h => absurd h h2) fun _ => .undefined _) fun _ => .field fun sz hsz => ?_
  have hli : fld (a ++ m ++ z) 2 2 = m := (fld_append422_mid a m z 0 2 le_rfl).trans BitVec.extractLsb'_eq_self
  rw [hli, hz sz hsz]
  exact .undefined _

theorem decodeFB_noPattern (a : BitVec 4) (m : BitVec 2) {z : BitVec 2} (h : z ≠ 2) :
    (decodeF8 0xFB#8 ((a ++ m ++ z) :: r)).Rejected := by
  simp only [decodeF8, take1_cons, fld_append422_lo]
  exact .ite (fun _ => .ite (fun hz => absurd hz h) fun _ => .undefined _) fun h3 => absurd rfl h3

/-! ### The page FC -/

theorem decodeScc_condition (z ld : BitVec 2) {b : Byte} (h : Cond.ofBits (fld b 0 4) = none) :
    (decodeScc z ld (b :: r)).Rejected :=
  .field fun _ _ => .ite (fun _ => .undefined _) fun _ => .field_none h

theorem decodeScc_size (ld : BitVec 2) (b : Byte) : (decodeScc 3 ld (b :: r)).Rejected := .undefined _

theorem decodeScc_register {z : BitVec 2} (h : z ≠ 2) (b : Byte) : (decodeScc z 3 (b :: r)).Rejected := by
  refine .field fun sz hsz => .ite (fun _ => .undefined _) fun hl => absurd ⟨rfl, ?_⟩ hl
  rintro rfl
  exact h (Size.bits_of_ofBits hsz).symm

theorem decodeBm_condition (imm : BitVec 3) (ld : BitVec 2) (a : BitVec 4) :
    (decodeBm imm ld ((a ++ 0b1110#4) :: r)).Rejected := by
  refine .ite (fun _ => .undefined _) fun _ => ?_
  simp [fld_append44_lo, Cond.ofBits, field]

theorem decodeBm_notMemory (imm : BitVec 3) (b : Byte) : (decodeBm imm 3 (b :: r)).Rejected := .undefined _

theorem tailRmPair_r15 (ld : BitVec 2) (a : BitVec 4) (k : RegOrMem → Reg → Instr) :
    (tailRmPair ld ((a ++ 15#4) :: r) k).Rejected := by
  have hrd : ¬(loReg (a ++ 15#4)).pairOk = true := by simp [loReg, fld_append44_lo, Reg.pairOk]
  exact .ite (fun h => absurd h hrd) fun _ => .undefined _

theorem decodeFC_pair (x : BitVec 1) (l : BitVec 2) (a : BitVec 4) :
    (decodeFC p ((0b00011#5 ++ x ++ l) :: (a ++ 15#4) :: r)).Rejected := by
  rcases bitVec1_cases x with rfl | rfl <;> rcases bitVec2_cases l with rfl | rfl | rfl | rfl <;>
    exact tailRmPair_r15 ..

/-- The second bytes of the page FC that no row takes. -/
def FreeFC (o : BitVec 6) (l : BitVec 2) : Prop :=
  ((o.toNat ≤ 3 ∨ o.toNat = 14) ∧ l.toNat ≠ 3) ∨ o.toNat = 10 ∨ o.toNat = 11 ∨ o.toNat = 15 ∨
    (18 ≤ o.toNat ∧ o.toNat ≤ 23) ∨ (28 ≤ o.toNat ∧ o.toNat ≤ 31) ∨ (39 ≤ o.toNat ∧ o.toNat ≤ 51)

theorem FreeFC.not_scc {o : BitVec 6} {l : BitVec 2} (h : FreeFC o l) : ¬fld (o ++ l) 4 4 = 0b1101 := fun he => by
  have hval := congrArg BitVec.toNat he
  unfold FreeFC at h
  simp only [toNat_fld, toNat_append_eq, BitVec.reduceToNat] at hval
  omega

theorem FreeFC.not_bm {o : BitVec 6} {l : BitVec 2} (h : FreeFC o l) : ¬fld (o ++ l) 5 3 = 0b111 := fun he => by
  have hval := congrArg BitVec.toNat he
  unfold FreeFC at h
  simp only [toNat_fld, toNat_append_eq, BitVec.reduceToNat] at hval
  omega

theorem fld_append62_hi (o : BitVec 6) (l : BitVec 2) : fld (o ++ l) 2 6 = o := BitVec.extractLsb'_append_eq_left

theorem decodeFC_noPattern {o : BitVec 6} {l : BitVec 2} (h : FreeFC o l) : (decodeFC p ((o ++ l) :: r)).Rejected := by
  have hscc := h.not_scc
  have hbm := h.not_bm
  unfold FreeFC at h
  have hl := l.isLt
  have hb : (o ++ l).toNat = o.toNat * 2 ^ 2 + l.toNat := toNat_append_eq o l
  simp only [decodeFC, take1_cons, fld_append62_hi, hscc, hbm, if_false]
  split
  case h_6 =>
    split
    case h_22 => exact .undefined _
    all_goals omega
  all_goals omega

end Pages

end Sys2Proof
end

section
/-! Opcode bytes of no instruction, continued: the pages FD, FE and FF, the register ranges, and the clauses of O3. -/

namespace Sys2Proof

open Decoded

variable (p : Product) (r : List Byte)

/-! ### The page FD -/

theorem decodeFD_bmcnd (w : BitVec 5) (a : BitVec 4) :
    (decodeFD p ((0b111#3 ++ w) :: (0b1110#4 ++ a) :: r)).Rejected := by
  simp [decodeFD, fld_append35_hi, fld_append44_hi, Cond.ofBits, field]

theorem decodeFD6_mvfc {c : BitVec 4} (h : CReg.ofBits c = none) (a : BitVec 4) :
    (decodeFD6 0x6A#8 ((c ++ a) :: r)).Rejected := .field_none ((congrArg CReg.ofBits (fld_append44_hi c a)).trans h)

theorem decodeFD6_mvtc {c : BitVec 4} (h : ∀ cr, CReg.ofBits c = some cr → ¬cr.writable = true) (a : BitVec 4) :
    (decodeFD6 0x68#8 ((a ++ c) :: r)).Rejected := by
  refine .field fun cr hcr => .ite (fun hw => absurd hw (h cr ?_)) fun _ => .undefined _
  rwa [fld_append44_lo] at hcr

theorem decodeFD7_mvtc (l : BitVec 2) {c : BitVec 4} (h : ∀ cr, CReg.ofBits c = some cr → ¬cr.writable = true) :
    (decodeFD7 p (0b0111#4 ++ l ++ 0b11#2) ((0b0000#4 ++ c) :: r)).Rejected := by
  simp only [decodeFD7, fld_append422_lo, take1_cons, fld_append44_hi, fld_append44_lo]
  exact .field fun cr hcr => .ite (fun hw => absurd hw (h cr hcr)) fun _ => .undefined _

theorem decodeFD7_mustBeZero (l : BitVec 2) {a : BitVec 4} (h : a ≠ 0) (b : BitVec 4) :
    (decodeFD7 p (0b0111#4 ++ l ++ 0b11#2) ((a ++ b) :: r)).Rejected := by
  simp only [decodeFD7, fld_append422_lo, take1_cons, fld_append44_hi]
  exact .ite (fun ha => absurd ha h) fun _ => .undefined _

theorem decodeFD7_pair (l : BitVec 2) (x : BitVec 1) :
    (decodeFD7 p (0b0111#4 ++ l ++ 0b00#2) ((0b011#3 ++ x ++ 0b1111#4) :: r)).Rejected := by
  have hrd : ¬(loReg (0b011#3 ++ x ++ 0b1111#4)).pairOk = true := by
    simp [loReg, fld_append314, Reg.pairOk]
  simp only [decodeFD7, fld_append422_lo, take1_cons, fld_append314]
  rcases bitVec1_cases x with rfl | rfl
  · exact .ite (fun h => absurd h hrd) fun _ => .undefined _
  · exact .ite (fun h => absurd h hrd) fun _ => .undefined _

theorem decodeFD7_noPattern (l : BitVec 2) {a : BitVec 4} (h : a ∈ [0, 1, 3, 10, 11]) (b : BitVec 4) :
    (decodeFD7 p (0b0111#4 ++ l ++ 0b00#2) ((a ++ b) :: r)).Rejected := by
  simp only [List.mem_cons, List.not_mem_nil, or_false] at h
  simp only [decodeFD7, fld_append422_lo, take1_cons, fld_append44_hi]
  rcases h with rfl | rfl | rfl | rfl | rfl <;> exact .undefined _

theorem decodeFD72_noPattern {a : BitVec 4} (h : 5 ≤ a.toNat) (b : BitVec 4) :
    (decodeFD7 p 0x72#8 ((a ++ b) :: r)).Rejected := by
  refine Rejected.fpu ?_
  simp only [take1_cons, fld_append44_hi]
  split
  case h_6 => exact .undefined _
  all_goals omega

theorem decodeDsp_racw (y : BitVec 3) (x : BitVec 1) (a : BitVec 4) (h : y ≠ 0 ∨ a ≠ 0) :
    (decodeDsp 0x18#8 ((y ++ x ++ a) :: r)).Rejected := by
  refine .ite (fun hz => ?_) fun _ => .undefined _
  rw [(fld_append314 y x a).1, (fld_append314 y x a).2.2] at hz
  exact h.elim (absurd hz.1) (absurd hz.2)

theorem decodeDsp_racw_low (b : BitVec 4) {a : BitVec 4} (h : a ≠ 0) :
    (decodeDsp 0x18#8 ((b ++ a) :: r)).Rejected := by
  refine .ite (fun hz => absurd ?_ h) fun _ => .undefined _
  rw [← fld_append44_lo b a]
  exact hz.2

theorem decodeDsp_mvta {a : BitVec 4} (h : 2 ≤ a.toNat) (b : BitVec 4) :
    (decodeDsp 0x17#8 ((a ++ b) :: r)).Rejected := by
  simp only [decodeDsp, BitVec.reduceToNat, take1_cons, fld_append44_hi]
  split
  case h_3 => exact .undefined _
  all_goals omega

theorem decodeDsp_mvfa {a : BitVec 4} (h0 : a ≠ 0) (h2 : a ≠ 2) (b : BitVec 4) :
    (decodeDsp 0x1F#8 ((a ++ b) :: r)).Rejected := by
  simp only [decodeDsp, BitVec.reduceToNat, take1_cons, fld_append44_hi]
  split
  case h_1 ha => exact absurd (BitVec.eq_of_toNat_eq ha) h0
  case h_2 ha => exact absurd (BitVec.eq_of_toNat_eq ha) h2
  case h_3 => exact .undefined _

theorem decodeAuto_size (z : BitVec 2) : (decodeFD p ((0b0010#4 ++ z ++ 0b11#2) :: r)).Rejected := by
  rcases bitVec2_cases z with rfl | rfl | rfl | rfl <;> exact .undefined _

/-! ### The pages FE and FF -/

theorem decodeFE_size (a : BitVec 4) :
    (decodeFE ((0b0011#4 ++ a) :: r)).Rejected ∧ (decodeFE ((0b0111#4 ++ a) :: r)).Rejected := by
  simp [decodeFE, fld_append44_sub, Size.ofBits, field]

theorem decodeFE_noPattern {a : BitVec 4} (h : (8 ≤ a.toNat ∧ a.toNat ≤ 11) ∨ 14 ≤ a.toNat) (b : BitVec 4) :
    (decodeFE ((a ++ b) :: r)).Rejected := by
  have ha := a.isLt
  have hv : (a ++ b).toNat = a.toNat * 2 ^ 4 + b.toNat := toNat_append_eq a b
  have hb := b.isLt
  simp only [decodeFE, take1_cons, toNat_fld, hv]
  split
  case h_3 =>
    refine .ite (fun h5 => absurd (congrArg BitVec.toNat h5) ?_) fun _ => .undefined _
    simp only [toNat_fld, hv, BitVec.reduceToNat]
    omega
  case h_4 => exact .undefined _
  all_goals omega

theorem decodeFF_noPattern {a : BitVec 4} (h : a.toNat = 1 ∨ 6 ≤ a.toNat) (b : BitVec 4) :
    (decodeFF ((a ++ b) :: r)).Rejected := by
  simp only [decodeFF, take1_cons, fld_append44_hi]
  split
  case h_6 => exact .undefined _
  all_goals omega

/-! ### Every other second byte of the page FD -/

theorem decodeDsp_noPattern {v : Byte}
    (h : (0x06 ≤ v.toNat ∧ v.toNat ≤ 0x16) ∨ (0x19 ≤ v.toNat ∧ v.toNat ≤ 0x1E)) : (decodeDsp v r).Rejected := by
  unfold decodeDsp
  split
  case h_8 => exact .undefined _
  all_goals omega

/-- The third field of FD 30 to FD 3F is not that of MOVU. -/
theorem decodeAuto_noPattern {v : Byte} (h : (0x30 ≤ v.toNat ∧ v.toNat ≤ 0x37) ∨ v.toNat = 0x3E ∨ v.toNat = 0x3F) :
    (decodeAuto v r).Rejected := by
  refine .ite (fun h4 => absurd (congrArg BitVec.toNat h4) ?_) fun _ =>
    .ite (fun ⟨h3, h1⟩ => absurd (congrArg BitVec.toNat h3) fun h3 => absurd (congrArg BitVec.toNat h1) ?_)
      fun _ => .undefined _
  · simp only [toNat_fld, BitVec.reduceToNat]
    omega
  · simp only [toNat_fld, BitVec.reduceToNat] at h3 ⊢
    omega

theorem decodeFD_noPattern {v : Byte}
    (h : v ∈ [0x02, 0x03, 0x3A, 0x3B, 0x63, 0x69, 0x6B, 0x71, 0x75, 0x76, 0x79, 0x7A, 0x7D, 0x7E] ∨
      (0x06 ≤ v.toNat ∧ v.toNat ≤ 0x16) ∨ (0x19 ≤ v.toNat ∧ v.toNat ≤ 0x1E) ∨ (0x30 ≤ v.toNat ∧ v.toNat ≤ 0x37) ∨
      (0x3E ≤ v.toNat ∧ v.toNat ≤ 0x5F)) : (decodeFD p (v :: r)).Rejected := by
  rcases h with h | h
  · simp only [List.mem_cons, List.not_mem_nil, or_false] at h
    rcases h with rfl | rfl | rfl | rfl | rfl | rfl | rfl | rfl | rfl | rfl | rfl | rfl | rfl | rfl <;>
      exact .undefined _
  · have hv := v.isLt
    simp only [decodeFD, take1_cons, toNat_fld]
    split
    case h_1 => exact decodeDsp_noPattern r (by omega)
    case h_2 => exact decodeAuto_noPattern r (by omega)
    case h_3 => exact .undefined _
    case h_8 =>
      simp only [imp_false] at *
      omega
    all_goals omega

/-! ### Register ranges and first bytes -/

theorem tailRange_register {a b : BitVec 4} (h : a.toNat = 0 ∨ a.toNat = 15 ∨ b.toNat = 0 ∨ b.toNat = 1)
    (k : Reg → Reg → Instr) : (tailRange ((a ++ b) :: r) k).Rejected := by
  refine .ite (fun hok => ?_) fun _ => .undefined _
  have ha : (hiReg (a ++ b)).val = a.toNat := congrArg BitVec.toNat (fld_append44_hi a b)
  have hb : (loReg (a ++ b)).val = b.toNat := congrArg BitVec.toNat (fld_append44_lo a b)
  simp only [Reg.rangeOk, ha, hb, Bool.and_eq_true, bne_iff_ne] at hok
  omega

theorem decodeRtsdRange_register {a b : BitVec 4} (h : a.toNat = 0 ∨ b.toNat = 0) :
    (decodeRtsdRange ((a ++ b) :: r)).Rejected := by
  have ha : (hiReg (a ++ b)).val = a.toNat := congrArg BitVec.toNat (fld_append44_hi a b)
  have hb : (loReg (a ++ b)).val = b.toNat := congrArg BitVec.toNat (fld_append44_lo a b)
  exact .ite (fun _ => .undefined _) fun hn => absurd (by rwa [ha, hb]) hn

/-! ### The clauses -/

/-- The condition codes 14 and 15 that SCCnd has not (R129). -/
theorem condition_reserved (a : BitVec 4) (x : BitVec 1) : Cond.ofBits (fld (a ++ 0b111#3 ++ x) 0 4) = none := by
  rw [fld_append431_lo]
  exact Cond.ofBits_eq_none (by simp only [toNat_append_eq, BitVec.reduceToNat]; omega)

/-- MOV.B of an immediate to memory has li = 01b alone (R382). -/
theorem movLiOk_byte {m : BitVec 2} (h : m ≠ 1) (sz : Size) (hsz : Size.ofBits 0 = some sz) :
    movLiOk sz m = false := by
  obtain rfl := Option.some.inj hsz
  exact beq_false_of_ne h

/-- MOV.W of an immediate to memory has li = 01b and 10b alone (R382). -/
theorem movLiOk_word {m : BitVec 2} (h : m = 0 ∨ m = 3) (sz : Size) (hsz : Size.ofBits 1 = some sz) :
    movLiOk sz m = false := by
  obtain rfl := Option.some.inj hsz
  rcases h with rfl | rfl <;> rfl

theorem FreeFC.of_ld {o : BitVec 6} {l : BitVec 2} (ho : o.toNat ≤ 3 ∨ o.toNat = 14) (hl : l ≠ 3) : FreeFC o l :=
  .inl ⟨ho, fun h => hl (BitVec.eq_of_toNat_eq h)⟩

theorem FreeFC.of_rows {o : BitVec 6} (l : BitVec 2) (ho : o ∈ [10, 11, 15] ∨ (18 ≤ o.toNat ∧ o.toNat ≤ 23) ∨
    (28 ≤ o.toNat ∧ o.toNat ≤ 31) ∨ (39 ≤ o.toNat ∧ o.toNat ≤ 51)) : FreeFC o l := by
  refine .inr ?_
  rcases ho with h | h
  · simp only [List.mem_cons, List.not_mem_nil, or_false] at h
    rcases h with rfl | rfl | rfl <;> decide
  · exact .inr (.inr (.inr h))

/-- Settles O3: clause by clause, by the page of the first bytes. -/
theorem reservedPatternsAreUndefined : Obligations.ReservedPatternsAreUndefined := by
  intro p z l m a b c x y w o v
  have hscc (z ld : BitVec 2) {c : Byte} (h : ∀ r, (decodeScc z ld (c :: r)).Rejected) :
      Rejects p [0xFC, 0b1101#4 ++ z ++ ld, c] := .of_eq (fun _ => decode_FC_scc p _ z ld) h
  have hbm (y : BitVec 3) (ld : BitVec 2) {c : Byte} (h : ∀ r, (decodeBm y ld (c :: r)).Rejected) :
      Rejects p [0xFC, 0b111#3 ++ y ++ ld, c] := .of_eq (fun _ => decode_FC_bm p _ y ld) h
  have hfd7 (lo : BitVec 2) {c : Byte} (h : ∀ r, (decodeFD7 p (0b0111#4 ++ l ++ lo) (c :: r)).Rejected) :
      Rejects p [0xFD, 0b0111#4 ++ l ++ lo, c] := .of_eq (fun _ => decode_FD7 p _ l lo) h
  have hf4 {c : Byte} (h : ∀ r, (decodeF0 (0b111101#6 ++ l) (c :: r)).Rejected) :
      Rejects p [0b111101#6 ++ l, c] := .of_eq (fun _ => decode_F4 p _ l) h
  have hf8 {c : Byte} (h : ∀ r, (decodeF8 (0b111110#6 ++ l) (c :: r)).Rejected) :
      Rejects p [0b111110#6 ++ l, c] := .of_eq (fun _ => decode_F8 p _ l) h
  refine ⟨fun _ => ⟨_, rfl⟩, fun _ => ⟨_, rfl⟩, ?_, fun _ => ⟨_, rfl⟩,
    -- cd, cr, cb
    hscc z l fun r => decodeScc_condition r z l (condition_reserved a x), hbm y l fun r => decodeBm_condition r y l a,
    fun r => decodeFD_bmcnd p r w a,
    fun hc => ⟨fun r => decodeFD6_mvfc r (CReg.ofBits_eq_none hc) a,
      fun r => decode7E_pushc r (CReg.ofBits_eq_none hc)⟩,
    fun hc => ⟨fun r => decodeFD6_mvtc r (CReg.not_writable hc) a,
      hfd7 _ fun r => decodeFD7_mvtc p r l (CReg.not_writable hc),
      fun r => decode7E_popc r (CReg.not_writable hc)⟩,
    fun hc => ⟨fun r => (decode7F_bit r (PswBit.ofBits_eq_none hc)).1,
      fun r => (decode7F_bit r (PswBit.ofBits_eq_none hc)).2⟩,
    -- sz
    hf4 fun r => decodeF4_size r l a, hf8 fun r => decodeF8_size r l a z 3 nofun (by decide),
    hscc 3 l fun r => decodeScc_size r l _, fun r => (decodeFE_size r a).1, fun r => (decodeFE_size r a).2,
    fun r => decodeAuto_size p r z,
    -- ld
    fun r => (decodeF0_notMemory r (a ++ b)).1, fun r => (decodeF0_notMemory r (a ++ b)).2,
    fun r => decode06_notMemory p r m b,
    hbm y 3 fun r => decodeBm_notMemory r y _, fun hz r => decodeFB_noPattern r a m hz,
    -- sz and li
    fun hm => hf8 fun r => decodeF8_size r l a m 0 (movLiOk_byte hm) (by decide),
    fun hm => hf8 fun r => decodeF8_size r l a m 1 (movLiOk_word hm) (by decide),
    -- mi
    fun hm => ⟨fun r => decode06_memex p r l hm (by decide), fun r => decode06_memex p r l hm (by decide)⟩,
    -- register numbers
    hfd7 _ fun r => decodeFD7_pair p r l x, fun r => decodeFC_pair p r x l a, fun r => decode06_pair p r m l x a,
    fun h => ⟨fun r => tailRange_register r h _, fun r => tailRange_register r h _⟩,
    fun h r => decodeRtsdRange_register r h, fun hz => hscc z 3 fun r => decodeScc_register r hz _,
    -- fixed bits
    fun ha => ⟨fun r => decode75_mvtipl p r ha b, fun r => (decode75_mustBeZero p r ha).1,
      fun r => (decode75_mustBeZero p r ha).2, fun r => decodeDsp_racw_low r b ha,
      hfd7 _ fun r => decodeFD7_mustBeZero p r l ha b⟩,
    fun hy r => decodeDsp_racw r y x a (.inl hy), fun ha r => decodeDsp_mvta r ha b,
    fun h0 h2 r => decodeDsp_mvfa r h0 h2 b, fun ha r => decodeFD72_noPattern p r ha b,
    fun ha => hfd7 _ fun r => decodeFD7_noPattern p r l ha b, hf4 fun r => decodeF4_noPattern r l a z,
    -- every other second byte
    fun hc r => decode06_noPattern p r m l hc,
    fun ha => ⟨fun r => decode74_noPattern p r b (.inl ⟨ha, by decide⟩),
      fun r => decode74_noPattern p r b (.inl ⟨ha, by decide⟩),
      fun r => decode74_noPattern p r b (.inl ⟨ha, by decide⟩)⟩,
    fun ha r => decode74_noPattern p r b (.inr ha), fun ha r => decode7E_noPattern r ha b,
    fun ha r => decode7F_noPattern r ha b, fun hb r => decode7F_system r hb,
    fun ho hl r => decodeFC_noPattern p r (.of_ld ho hl), fun ho r => decodeFC_noPattern p r (.of_rows l ho),
    fun hv r => decodeFD_noPattern p r hv, fun ha r => decodeFE_noPattern r ha b,
    fun ha r => decodeFF_noPattern r ha b,
    -- every other third byte
    fun hv r => decode06_third p r m l hv⟩
  rcases bitVec3_cases y with rfl | rfl | rfl | rfl | rfl | rfl | rfl | rfl <;> exact fun _ => ⟨_, rfl⟩

end Sys2Proof
end

section
/-! How the arithmetic and logic instructions end, form by form: the frames of a written PSW, of free values and of
register pairs, and the operand forms of R200. -/

namespace Sys2Proof.Machine

/-! ### Outcomes -/

theorem Reaches.imp {o : Out} {P Q : State → Prop} (h : Reaches o P) (hPQ : ∀ t, P t → Q t) : Reaches o Q := by
  obtain ⟨t, ht, hP⟩ := h
  exact ⟨t, ht, hPQ t hP⟩

/-! ### Operand forms -/

section Forms

variable {s : State} {k : Word → Nat → Out} {n : Nat} {P : Word → Nat → State → Prop}

/-- An instruction that goes on from its register or .UB memory source does so for each that can be read. -/
theorem State.eachRm_of_reaches {form : RegOrMem → Instr} (hk : ∀ v m, Reaches (k v m) (P v m))
    (hform : ∀ src, exec (form src) s = s.withRm src fun v => k v (n + src.len)) : s.EachRm form n P :=
  fun src v hv => by
    rw [Completes, hform, State.withRm_eq hv]
    exact hk v _

/-- An instruction that goes on from its `mi` memory source does so for each that can be read. -/
theorem State.eachMx_of_reaches {form : Memex → Reg → Dsp → Instr} (hk : ∀ v m, Reaches (k v m) (P v m))
    (hform : ∀ mx rs d, exec (form mx rs d) s = s.withMx mx rs d fun v => k v (n + d.len)) : s.EachMx form n P :=
  fun mx rs d v hv => by
    rw [Completes, hform, State.withMx_eq hv]
    exact hk v _

/-- An instruction that goes on from its longword memory source does so for each that can be read. -/
theorem State.eachLong_of_reaches {form : Reg → Dsp → Instr} (hk : ∀ v m, Reaches (k v m) (P v m))
    (hform : ∀ rs d, exec (form rs d) s = s.load (s.ea rs d .l) .l fun v => k v (n + d.len)) :
    s.EachLong form n P := by
  rintro rs d v ⟨hread, rfl⟩
  rw [← s.ea_long] at hread ⊢
  rw [Completes, hform, s.load_eq _ .l _ hread]
  exact hk _ _

end Forms

/-! ### Which flags a result changes -/

/-- The PSW fields that no arithmetic changes being kept, only the four result flags can differ. -/
theorem SamePsw.of_sameMode {s : State} {p : Psw} (h : s.psw.SameMode p) :
    SamePsw [.c, .z, .s, .o] s (s.withPsw p) :=
  ⟨fun
    | .i, _ => h.i
    | .u, _ => h.u
    | .c, hb | .z, hb | .s, hb | .o, hb => absurd (by decide) hb, h.pm, h.ipl⟩

theorem SamePsw.of_setZS (s : State) (r : Word) : SamePsw [.z, .s] s (s.withPsw (s.psw.setZS r)) :=
  ⟨fun
    | .c, _ | .o, _ | .i, _ | .u, _ => rfl
    | .z, hb | .s, hb => absurd (by decide) hb, rfl, rfl⟩

theorem SamePsw.of_absFlags (s : State) (a : Word) : SamePsw [.z, .s, .o] s (s.withPsw (absFlags a s.psw).2) :=
  ⟨fun
    | .c, _ | .i, _ | .u, _ => rfl
    | .z, hb | .s, hb | .o, hb => absurd (by decide) hb, rfl, rfl⟩

/-! ### Frames -/

/-- Free values are drawn into ACC and the counter. -/
theorem SameControl.withFree {s t : State} (h : SameControl s t) (acc : BitVec 64) (fresh : Nat) :
    SameControl s { t with acc := acc, fresh := fresh } :=
  ⟨h.intb, h.bpc, h.bpsw, h.fintv, h.waiting, h.nmiPending, h.product, h.inputs, h.ack, h.rmpa⟩

namespace Frame

variable {regs : List Reg} {bits : List PswBit} {s t : State}

/-- A PSW written with the same stack pointer selected changes no register. -/
theorem withPsw {p : Psw} (hp : SamePsw bits s (s.withPsw p)) (hu : .u ∉ bits) : Frame regs bits s (s.withPsw p) where
  regs := ⟨fun r _ => s.reg_withPsw p (hp.bits .u hu) r, State.otherSp_congr (hp.bits .u hu) rfl rfl⟩
  psw := hp
  control := (SameControl.refl s).withPsw p
  fpsw := rfl
  acc := rfl
  memory _ := rfl

theorem drawWord (h : Frame regs bits s t) : Frame regs bits s t.drawWord.2 where
  regs := ⟨h.regs.regs, h.regs.otherSp⟩
  psw := ⟨h.psw.bits, h.psw.pm, h.psw.ipl⟩
  control := h.control.withFree t.acc _
  fpsw := h.fpsw
  acc := h.acc
  memory := h.memory

theorem clobberReg (h : Frame regs bits s t) {r : Reg} (hr : r ∈ regs) : Frame regs bits s (t.clobberReg r) :=
  h.drawWord.setReg hr _

/-- A free ACC is all that drawing it changes. -/
theorem clobberAcc (h : Frame regs bits s t) (n : Nat) : FrameAcc regs bits s (t.clobberAcc.advance n) where
  regs := ⟨h.regs.regs, h.regs.otherSp⟩
  psw := ⟨h.psw.bits, h.psw.pm, h.psw.ipl⟩
  control := (h.control.withFree _ _).goto _
  fpsw := h.fpsw
  memory := h.memory

end Frame

/-! ### Ends of instructions -/

/-- A result with a PSW that differs in some flags only: register, PC and these flags are all that changes. -/
theorem State.finish_wrote (s : State) (rd : Reg) {r : Word × Psw} (n : Nat) {bits : List PswBit}
    (hp : SamePsw bits s (s.withPsw r.2)) (hu : .u ∉ bits) :
    Reaches (s.finish rd r n) fun t => t.psw = r.2 ∧ Wrote rd r.1 bits n s t :=
  ⟨_, s.finish_eq rd r n, by simp, State.reg_setReg_same _ rd r.1, by simp [State.after],
    ((Frame.withPsw hp hu).setReg (List.mem_singleton.2 rfl) r.1).advance n⟩

/-- A PSW that differs in some flags only, without a result. -/
theorem State.flagsOnly_flagged (s : State) {p : Psw} (n : Nat) {bits : List PswBit}
    (hp : SamePsw bits s (s.withPsw p)) (hu : .u ∉ bits) :
    Reaches (s.flagsOnly p n) fun t => t.psw = p ∧ Flagged bits n s t :=
  ⟨_, rfl, rfl, rfl, (Frame.withPsw hp hu).advance n⟩

/-- A register written under a condition holds the new value or the one of before. -/
theorem State.assignIf_wrote (s : State) (c : Bool) (rd : Reg) (v : Word) (n : Nat) :
    Reaches (s.assignIf c rd v n) (Wrote rd (if c then v else s.reg rd) [] n s) := by
  cases c with
  | true => exact s.assign_wrote rd v n
  | false => exact ⟨_, rfl, rfl, rfl, (Frame.refl [rd] [] s).advance n⟩

end Sys2Proof.Machine
end

section
/-! Values and flags of the arithmetic and logic results, as numbers (R202 to R217, R267, R271 to R273). -/

namespace Sys2Proof.Machine

/-! ### Z and S -/

theorem ZsOf.of_fields {r : Word} {t : State} (hz : t.psw.z = (r == 0)) (hs : t.psw.s = r.msb) : ZsOf r t where
  z := by rw [hz, beq_iff_eq]; exact (BitVec.toNat_inj (y := 0#32)).symm
  s := by rw [hs, BitVec.msb_eq_toInt, decide_eq_true_iff]

/-! ### Sums -/

theorem toNat_bitWord (b : Bool) : (bitWord b).toNat = b.toNat := by cases b <;> rfl

theorem toNat_addSum (a b : Word) (cin : Bool) :
    (addSum a b cin).toNat = (a.toNat + b.toNat + cin.toNat) % 2 ^ 32 := by
  rw [addSum, BitVec.toNat_add, BitVec.toNat_add, toNat_bitWord, Nat.mod_add_mod]

/-- Operands of one sign whose sum has the other: the exact sum is out of range. -/
theorem addOverflow_iff (a b : Word) (cin : Bool) :
    (a.msb == b.msb && (addSum a b cin).msb != a.msb) = true ↔
      a.toInt + b.toInt + cin.toNat ≠ (addSum a b cin).toInt := by
  have ha := a.isLt
  have hb := b.isLt
  have hcin := Bool.toNat_le cin
  have hr := toNat_addSum a b cin
  simp only [BitVec.msb_eq_toNat, BitVec.toInt_eq_toNat_cond, Bool.and_eq_true, beq_iff_eq, bne_iff_ne, ne_eq,
    decide_eq_decide]
  omega

theorem SumFlags.of_psw {a b : Word} {cin : Bool} {p : Psw} {t : State} (h : t.psw = (addFlags a b cin p).2) :
    SumFlags a b cin (addSum a b cin) t where
  value := toNat_addSum a b cin
  carry := by rw [h]; exact decide_eq_true_iff
  overflow := by rw [h]; exact addOverflow_iff a b cin
  zs := .of_fields (by rw [h]; rfl) (by rw [h]; rfl)

theorem State.finish_sum (s : State) (rd : Reg) (a b : Word) (cin : Bool) (n : Nat) :
    Reaches (s.finish rd (addFlags a b cin s.psw) n) (HoldsSum rd a b cin n s) :=
  (s.finish_wrote rd n (.of_sameMode ⟨rfl, rfl, rfl, rfl⟩) (by decide)).imp fun _ ⟨hpsw, hwrote⟩ =>
    ⟨_, .of_psw hpsw, hwrote⟩

/-! ### Differences -/

theorem toNat_subDiff (a b : Word) (bin : Bool) :
    (subDiff a b bin).toNat = (a.toNat + 2 ^ 32 - (b.toNat + bin.toNat)) % 2 ^ 32 := by
  have ha := a.isLt
  have hb := b.isLt
  have hbin := Bool.toNat_le bin
  rw [subDiff, BitVec.toNat_sub, BitVec.toNat_sub, toNat_bitWord]
  omega

/-- Operands of different signs whose difference has the sign of the second: the exact one is out of range. -/
theorem subOverflow_iff (a b : Word) (bin : Bool) :
    (a.msb != b.msb && (subDiff a b bin).msb != a.msb) = true ↔
      a.toInt - b.toInt - bin.toNat ≠ (subDiff a b bin).toInt := by
  have ha := a.isLt
  have hb := b.isLt
  have hbin := Bool.toNat_le bin
  have hr := toNat_subDiff a b bin
  simp only [BitVec.msb_eq_toNat, BitVec.toInt_eq_toNat_cond, Bool.and_eq_true, bne_iff_ne, ne_eq, decide_eq_decide]
  omega

theorem DifferenceFlags.of_psw {a b : Word} {bin : Bool} {p : Psw} {t : State} (h : t.psw = (subFlags a b bin p).2) :
    DifferenceFlags a b bin (subDiff a b bin) t where
  value := toNat_subDiff a b bin
  carry := by rw [h]; exact decide_eq_true_iff
  overflow := by rw [h]; exact subOverflow_iff a b bin
  zs := .of_fields (by rw [h]; rfl) (by rw [h]; rfl)

theorem State.finish_difference (s : State) (rd : Reg) (a b : Word) (bin : Bool) (n : Nat) :
    Reaches (s.finish rd (subFlags a b bin s.psw) n) (HoldsDifference rd a b bin n s) :=
  (s.finish_wrote rd n (.of_sameMode ⟨rfl, rfl, rfl, rfl⟩) (by decide)).imp fun _ ⟨hpsw, hwrote⟩ =>
    ⟨_, .of_psw hpsw, hwrote⟩

theorem State.flagsOnly_compared (s : State) (a b : Word) (n : Nat) :
    Reaches (s.flagsOnly (subFlags a b false s.psw).2 n) (Compared a b n s) :=
  have hp : SamePsw [.c, .z, .s, .o] s (s.withPsw (subFlags a b false s.psw).2) := .of_sameMode ⟨rfl, rfl, rfl, rfl⟩
  (s.flagsOnly_flagged n hp (by decide)).imp fun _ ⟨hpsw, hflagged⟩ => ⟨⟨_, .of_psw hpsw⟩, hflagged⟩

/-! ### Logic -/

theorem ZsOf.of_setZS {r : Word} {p : Psw} {t : State} (h : t.psw = p.setZS r) : ZsOf r t :=
  .of_fields (by rw [h]; rfl) (by rw [h]; rfl)

theorem State.finish_logic (s : State) (rd : Reg) (v : Word) (n : Nat) :
    Reaches (s.finish rd (logicFlags v s.psw) n) (HoldsLogic rd v n s) :=
  (s.finish_wrote rd n (.of_setZS s v) (by decide)).imp fun _ ⟨hpsw, hwrote⟩ => ⟨.of_setZS hpsw, hwrote⟩

theorem State.flagsOnly_tested (s : State) (v : Word) (n : Nat) :
    Reaches (s.flagsOnly (logicFlags v s.psw).2 n) (Tested v n s) :=
  (s.flagsOnly_flagged n (.of_setZS s v) (by decide)).imp fun _ ⟨hpsw, hflagged⟩ => ⟨.of_setZS hpsw, hflagged⟩

/-! ### Products -/

theorem State.finishMul_product (s : State) (rd : Reg) (a b : Word) (n : Nat) :
    Reaches (s.finishMul rd (a * b) n) (Product32 rd a b n s) := by
  refine ⟨_, rfl, ?_, by simp [State.after],
    ((Frame.refl [rd] [] s).setReg (List.mem_singleton.2 rfl) _).clobberAcc n⟩
  rw [State.reg_advance, State.reg_clobberAcc, State.reg_setReg_same, BitVec.toNat_mul]

theorem toInt_signedProduct (a b : Word) : (signedProduct a b).toInt = a.toInt * b.toInt := by
  have hlow : -2 ^ 62 ≤ a.toInt * b.toInt := BitVec.le_toInt_mul_toInt
  have hhigh : a.toInt * b.toInt ≤ 2 ^ 62 := BitVec.toInt_mul_toInt_le
  exact BitVec.toInt_ofInt_eq_self (by decide) (by omega) (by omega)

theorem toNat_unsignedProduct (a b : Word) : (unsignedProduct a b).toNat = a.toNat * b.toNat :=
  Nat.mod_eq_of_lt BitVec.toNat_mul_toNat_lt

theorem halves_append (p : BitVec 64) : p.extractLsb' 32 32 ++ p.extractLsb' 0 32 = p :=
  (BitVec.extractLsb'_append_extractLsb'_eq_extractLsb' rfl).trans BitVec.extractLsb'_eq_self

theorem reg_ne_next (r : Reg) : r ≠ r.next := by
  revert r
  decide

/-- A pair of registers holds the doubleword written to it (R23, R209, R210). -/
theorem State.finishPair_pair (s : State) (rd : Reg) (p : BitVec 64) (n : Nat) :
    Reaches (s.finishPair rd p n) fun t =>
      t.reg rd.next ++ t.reg rd = p ∧ t.pc = s.after n ∧ FrameAcc [rd, rd.next] [] s t := by
  refine ⟨_, rfl, ?_, by simp [State.after],
    (((Frame.refl [rd, rd.next] [] s).setReg (by simp) _).setReg (by simp) _).clobberAcc n⟩
  rw [State.reg_advance, State.reg_advance, State.reg_clobberAcc, State.reg_clobberAcc, State.reg_setReg_same,
    State.reg_setReg_ne _ _ (reg_ne_next rd), State.reg_setReg_same, halves_append]

theorem State.finishPair_signed (s : State) (rd : Reg) (a b : Word) (n : Nat) :
    Reaches (s.finishPair rd (signedProduct a b) n) (SignedProduct64 rd a b n s) :=
  (s.finishPair_pair rd _ n).imp fun _ ⟨hpair, hpc, hframe⟩ =>
    ⟨hpair ▸ toInt_signedProduct a b, hpc, hframe⟩

theorem State.finishPair_unsigned (s : State) (rd : Reg) (a b : Word) (n : Nat) :
    Reaches (s.finishPair rd (unsignedProduct a b) n) (UnsignedProduct64 rd a b n s) :=
  (s.finishPair_pair rd _ n).imp fun _ ⟨hpair, hpc, hframe⟩ =>
    ⟨hpair ▸ toNat_unsignedProduct a b, hpc, hframe⟩

/-! ### Quotients -/

theorem toInt_eq_intMin_iff (a : Word) : a.toInt = -2 ^ 31 ↔ a = 0x80000000 := BitVec.toInt_inj (y := 0x80000000#32)

theorem toInt_eq_negOne_iff (a : Word) : a.toInt = -1 ↔ a = 0xFFFFFFFF := BitVec.toInt_inj (y := 0xFFFFFFFF#32)

/-- A quotient that is left out just where `undefined` holds and satisfies `Q` elsewhere. -/
def DefinedUnless (undefined : Prop) (Q : Word → Prop) : Option Word → Prop
  | none => undefined
  | some v => ¬undefined ∧ Q v

theorem divQuotient_defined (a b : Word) :
    DefinedUnless (b.toInt = 0 ∨ (a.toInt = -2 ^ 31 ∧ b.toInt = -1)) (·.toInt = a.toInt.tdiv b.toInt)
      (divQuotient a b) := by
  have hzero : b.toInt = 0 ↔ b = 0 := BitVec.toInt_inj (y := 0#32)
  simp only [hzero, toInt_eq_intMin_iff, toInt_eq_negOne_iff, divQuotient, Bool.or_eq_true, Bool.and_eq_true,
    decide_eq_true_eq]
  split
  · assumption
  · rename_i hdef
    refine ⟨hdef, ?_⟩
    calc (BitVec.ofInt 32 (a.toInt.tdiv b.toInt)).toInt
        = (a.sdiv b).toInt := (BitVec.toInt_ofInt _).trans (BitVec.toInt_sdiv a b).symm
      _ = a.toInt.tdiv b.toInt :=
          BitVec.toInt_sdiv_of_ne_or_ne a b (not_and_or.1 fun hmin => hdef (.inr hmin))

theorem divuQuotient_defined (a b : Word) :
    DefinedUnless (b.toNat = 0) (·.toNat = a.toNat / b.toNat) (divuQuotient a b) := by
  have hzero : b.toNat = 0 ↔ b = 0 := BitVec.toNat_inj (y := 0#32)
  rw [hzero, divuQuotient]
  split
  · assumption
  · exact ⟨‹_›, Nat.mod_eq_of_lt ((Nat.div_le_self ..).trans_lt a.isLt)⟩

theorem State.finishDiv_divided (s : State) (rd : Reg) {q : Option Word} {undefined : Prop} {Q : Word → Prop}
    (n : Nat) (h : DefinedUnless undefined Q q) :
    Reaches (s.finishDiv rd q n) fun t => Divided rd undefined (Q (t.reg rd)) n s t := by
  cases q with
  | none =>
    have hframe : Frame [rd] [.o] s (s.withPsw { s.psw with o := true }) :=
      Frame.withPsw (.of_setBit (b := .o) (v := true) rfl) (by decide)
    have hundefined : undefined := h
    exact ⟨_, rfl, by simp [hundefined], fun hdef => absurd hundefined hdef, by simp [State.after],
      (hframe.clobberReg (List.mem_singleton.2 rfl)).advance n⟩
  | some v =>
    obtain ⟨hdef, hv⟩ := h
    have hwrote := s.finish_wrote rd (r := (v, { s.psw with o := false })) n
      (.of_setBit (b := .o) (v := false) rfl) (by decide)
    exact hwrote.imp fun t ⟨hpsw, hreg, hpc, hframe⟩ =>
      ⟨by simp [hpsw, hdef], fun _ => by rwa [hreg], hpc, hframe⟩

theorem State.finishDiv_quotient (s : State) (rd : Reg) (a b : Word) (n : Nat) :
    Reaches (s.finishDiv rd (divQuotient a b) n) (HoldsQuotient rd a b n s) :=
  s.finishDiv_divided rd n (divQuotient_defined a b)

theorem State.finishDiv_unsignedQuotient (s : State) (rd : Reg) (a b : Word) (n : Nat) :
    Reaches (s.finishDiv rd (divuQuotient a b) n) (HoldsUnsignedQuotient rd a b n s) :=
  s.finishDiv_divided rd n (divuQuotient_defined a b)

/-! ### MAX and MIN -/

theorem State.assignIf_max (s : State) (rd : Reg) (v : Word) (n : Nat) :
    Reaches (s.assignIf ((s.reg rd).slt v) rd v n) (HoldsInt rd (max (s.reg rd).toInt v.toInt) n s) := by
  refine (s.assignIf_wrote _ rd v n).imp fun t hwrote => ⟨_, ?_, hwrote⟩
  split
  · exact (max_eq_right (BitVec.slt_iff_toInt_lt.1 ‹_›).le).symm
  · exact (max_eq_left (not_lt.1 (mt BitVec.slt_iff_toInt_lt.2 ‹_›))).symm

theorem State.assignIf_min (s : State) (rd : Reg) (v : Word) (n : Nat) :
    Reaches (s.assignIf (v.slt (s.reg rd)) rd v n) (HoldsInt rd (min (s.reg rd).toInt v.toInt) n s) := by
  refine (s.assignIf_wrote _ rd v n).imp fun t hwrote => ⟨_, ?_, hwrote⟩
  split
  · exact (min_eq_right (BitVec.slt_iff_toInt_lt.1 ‹_›).le).symm
  · exact (min_eq_left (not_lt.1 (mt BitVec.slt_iff_toInt_lt.2 ‹_›))).symm

/-! ### ABS and NEG -/

theorem toInt_abs {a : Word} (h : a.toInt ≠ -2 ^ 31) : a.abs.toInt = |a.toInt| := by
  rw [BitVec.toInt_abs_eq_natAbs_of_ne_intMin (mt (toInt_eq_intMin_iff a).2 h), Int.abs_eq_natAbs]

theorem abs_eq_self_of_intMin {a : Word} (h : a.toInt = -2 ^ 31) : a.abs = a := by
  obtain rfl := (toInt_eq_intMin_iff a).1 h
  rfl

/-- rd holds the absolute value of a, with its flags; 80000000h stays as it is (R202). -/
def HoldsAbs (rd : Reg) (a : Word) (n : Nat) (s t : State) : Prop :=
  ∃ r : Word, (a.toInt ≠ -2 ^ 31 → r.toInt = |a.toInt|) ∧ (a.toInt = -2 ^ 31 → r = a) ∧ ZsOf r t ∧
    (t.psw.o = true ↔ a.toInt = -2 ^ 31) ∧ Wrote rd r [.z, .s, .o] n s t

theorem State.finish_abs (s : State) (rd : Reg) (a : Word) (n : Nat) :
    Reaches (s.finish rd (absFlags a s.psw) n) (HoldsAbs rd a n s) :=
  (s.finish_wrote rd n (.of_absFlags s a) (by decide)).imp fun t ⟨hpsw, hwrote⟩ => by
    refine ⟨a.abs, toInt_abs, abs_eq_self_of_intMin, .of_fields (by rw [hpsw]; rfl) (by rw [hpsw]; rfl), ?_, hwrote⟩
    rw [hpsw, toInt_eq_intMin_iff]
    exact beq_iff_eq

/-- rd holds the negative of a, with its flags (R214). -/
def HoldsNegative (rd : Reg) (a : Word) (n : Nat) (s t : State) : Prop :=
  ∃ r : Word, r.toNat = (2 ^ 32 - a.toNat) % 2 ^ 32 ∧ ZsOf r t ∧ (t.psw.c = true ↔ r.toNat = 0) ∧
    (t.psw.o = true ↔ a.toInt = -2 ^ 31) ∧ Wrote rd r [.c, .z, .s, .o] n s t

theorem State.finish_negative (s : State) (rd : Reg) (a : Word) (n : Nat) :
    Reaches (s.finish rd (negFlags a s.psw) n) (HoldsNegative rd a n s) :=
  (s.finish_wrote rd n (.of_sameMode ⟨rfl, rfl, rfl, rfl⟩) (by decide)).imp fun t ⟨hpsw, hwrote⟩ => by
    have hzs : ZsOf (-a) t := .of_fields (by rw [hpsw]; rfl) (by rw [hpsw]; rfl)
    have hcz : t.psw.c = t.psw.z := by rw [hpsw]; rfl
    refine ⟨-a, BitVec.toNat_neg a, hzs, hcz ▸ hzs.z, ?_, hwrote⟩
    rw [hpsw, toInt_eq_intMin_iff]
    exact beq_iff_eq

end Sys2Proof.Machine
end

section
/-! The statements about the arithmetic and logic instructions (R202 to R217, R267, R271 to R273): each form goes on
from its source operand to an end of instruction whose result the lemmas above give. -/

namespace Sys2Proof.Machine

/-- Settles O23: every form ends with the sum of `addflags`. -/
theorem additionsGiveSumAndFlags : Obligations.AdditionsGiveSumAndFlags := by
  intro s rs rs2 rd imm
  exact ⟨
    -- ADD
    s.finish_sum rd _ _ _ _,
    State.eachRm_of_reaches (fun v => s.finish_sum rd _ v _) fun _ => rfl,
    State.eachMx_of_reaches (fun v => s.finish_sum rd _ v _) fun _ _ _ => rfl,
    fun imm => s.finish_sum rd _ imm.value _ _,
    s.finish_sum rd _ _ _ _,
    -- ADC
    fun imm => s.finish_sum rd _ imm.value _ _,
    s.finish_sum rd _ _ _ _,
    State.eachLong_of_reaches (fun v => s.finish_sum rd _ v _) fun _ _ => rfl⟩

/-- Settles O24: every form ends with the difference of `subflags`; CMP writes its flags alone. -/
theorem subtractionsGiveDifferenceAndFlags : Obligations.SubtractionsGiveDifferenceAndFlags := by
  intro s rs rs2 rd imm imm8
  exact ⟨
    -- SUB
    s.finish_difference rd _ _ _ _,
    State.eachRm_of_reaches (fun v => s.finish_difference rd _ v _) fun _ => rfl,
    State.eachMx_of_reaches (fun v => s.finish_difference rd _ v _) fun _ _ _ => rfl,
    s.finish_difference rd _ _ _ _,
    -- SBB
    s.finish_difference rd _ _ _ _,
    State.eachLong_of_reaches (fun v => s.finish_difference rd _ v _) fun _ _ => rfl,
    -- CMP
    s.flagsOnly_compared _ _ _,
    s.flagsOnly_compared _ _ _,
    fun imm => s.flagsOnly_compared _ imm.value _,
    State.eachRm_of_reaches (fun v => s.flagsOnly_compared _ v) fun _ => rfl,
    State.eachMx_of_reaches (fun v => s.flagsOnly_compared _ v) fun _ _ _ => rfl⟩

/-- Settles O25: every form ends with Z and S of its bitwise result; TST writes them alone. -/
theorem logicGivesBitsAndZeroSign : Obligations.LogicGivesBitsAndZeroSign := by
  intro s rs rs2 rd imm
  exact ⟨
    -- AND
    s.finish_logic rd _ _,
    fun imm => s.finish_logic rd (s.reg rd &&& imm.value) _,
    State.eachRm_of_reaches (fun v => s.finish_logic rd (s.reg rd &&& v)) fun _ => rfl,
    State.eachMx_of_reaches (fun v => s.finish_logic rd (s.reg rd &&& v)) fun _ _ _ => rfl,
    s.finish_logic rd _ _,
    -- OR
    s.finish_logic rd _ _,
    fun imm => s.finish_logic rd (s.reg rd ||| imm.value) _,
    State.eachRm_of_reaches (fun v => s.finish_logic rd (s.reg rd ||| v)) fun _ => rfl,
    State.eachMx_of_reaches (fun v => s.finish_logic rd (s.reg rd ||| v)) fun _ _ _ => rfl,
    s.finish_logic rd _ _,
    -- XOR
    fun imm => s.finish_logic rd (s.reg rd ^^^ imm.value) _,
    State.eachRm_of_reaches (fun v => s.finish_logic rd (s.reg rd ^^^ v)) fun _ => rfl,
    State.eachMx_of_reaches (fun v => s.finish_logic rd (s.reg rd ^^^ v)) fun _ _ _ => rfl,
    -- NOT
    s.finish_logic rd _ _,
    s.finish_logic rd _ _,
    -- TST
    fun imm => s.flagsOnly_tested (s.reg rs2 &&& imm.value) _,
    State.eachRm_of_reaches (fun v => s.flagsOnly_tested (s.reg rs2 &&& v)) fun _ => rfl,
    State.eachMx_of_reaches (fun v => s.flagsOnly_tested (s.reg rs2 &&& v)) fun _ _ _ => rfl⟩

/-- Settles O26: the products by their exact values, the quotients by where they are defined. -/
theorem productsAndQuotients : Obligations.ProductsAndQuotients := by
  intro s rs rs2 rd imm
  exact ⟨
    -- MUL
    s.finishMul_product rd _ _ _,
    fun imm => s.finishMul_product rd _ imm.value _,
    State.eachRm_of_reaches (fun v => s.finishMul_product rd _ v) fun _ => rfl,
    State.eachMx_of_reaches (fun v => s.finishMul_product rd _ v) fun _ _ _ => rfl,
    s.finishMul_product rd _ _ _,
    -- EMUL and EMULU
    fun _ => ⟨fun imm => s.finishPair_signed rd _ imm.value _,
      State.eachRm_of_reaches (fun v => s.finishPair_signed rd _ v) fun _ => rfl,
      State.eachMx_of_reaches (fun v => s.finishPair_signed rd _ v) fun _ _ _ => rfl,
      fun imm => s.finishPair_unsigned rd _ imm.value _,
      State.eachRm_of_reaches (fun v => s.finishPair_unsigned rd _ v) fun _ => rfl,
      State.eachMx_of_reaches (fun v => s.finishPair_unsigned rd _ v) fun _ _ _ => rfl⟩,
    -- DIV
    fun imm => s.finishDiv_quotient rd _ imm.value _,
    State.eachRm_of_reaches (fun v => s.finishDiv_quotient rd _ v) fun _ => rfl,
    State.eachMx_of_reaches (fun v => s.finishDiv_quotient rd _ v) fun _ _ _ => rfl,
    -- DIVU
    fun imm => s.finishDiv_unsignedQuotient rd _ imm.value _,
    State.eachRm_of_reaches (fun v => s.finishDiv_unsignedQuotient rd _ v) fun _ => rfl,
    State.eachMx_of_reaches (fun v => s.finishDiv_unsignedQuotient rd _ v) fun _ _ _ => rfl⟩

/-- Settles O27. -/
theorem maxMinAbsAndNegate : Obligations.MaxMinAbsAndNegate := by
  intro s rs rd a
  refine ⟨
    -- MAX
    fun imm => s.assignIf_max rd imm.value _,
    State.eachRm_of_reaches (fun v => s.assignIf_max rd v) fun _ => rfl,
    State.eachMx_of_reaches (fun v => s.assignIf_max rd v) fun _ _ _ => rfl,
    -- MIN
    fun imm => s.assignIf_min rd imm.value _,
    State.eachRm_of_reaches (fun v => s.assignIf_min rd v) fun _ => rfl,
    State.eachMx_of_reaches (fun v => s.assignIf_min rd v) fun _ _ _ => rfl,
    -- NOP
    s.goto_jumped _,
    -- ABS and NEG
    ?_, ?_, ?_, ?_⟩
  · rintro rfl
    exact s.finish_abs rd _ _
  · rintro rfl
    exact s.finish_abs rd _ _
  · rintro rfl
    exact s.finish_negative rd _ _
  · rintro rfl
    exact s.finish_negative rd _ _

end Sys2Proof.Machine
end

section
/-! Saturation after an overflow (R265, R266). -/

namespace Sys2Proof.Machine

/-! ### SAT -/

/-- An exact result one machine word out of range at most, written modulo 2^32: replacing it after an overflow by the
limit on the side its sign does not show saturates it. -/
theorem saturated_toInt {r : Word} {x : Int} {o s : Bool} (ho : o = true ↔ x ≠ r.toInt) (hs : s = true ↔ r.toInt < 0)
    (hmod : x = r.toInt ∨ x = r.toInt + 2 ^ 32 ∨ x = r.toInt - 2 ^ 32) (hlow : -2 ^ 32 ≤ x) (hhigh : x < 2 ^ 32) :
    (if o = true ∧ s = true then 0x7FFFFFFF else if o = true then 0x80000000 else r : Word).toInt =
      max (-2 ^ 31) (min (2 ^ 31 - 1) x) := by
  have hrlow := BitVec.le_toInt r
  have hrhigh := BitVec.toInt_lt (x := r)
  have hmax : (0x7FFFFFFF : Word).toInt = 2 ^ 31 - 1 := rfl
  have hmin : (0x80000000 : Word).toInt = -2 ^ 31 := rfl
  simp only [ho, hs]
  split
  · omega
  · split <;> omega

/-- SAT writes the limit on the side that the overflow left, and nothing without an overflow (R265). -/
theorem sat_wrote (s : State) (rd : Reg) :
    Completes (.sat rd) s (Wrote rd
      (if s.psw.o = true ∧ s.psw.s = true then 0x7FFFFFFF else if s.psw.o = true then 0x80000000 else s.reg rd)
      [] 2 s) := by
  refine (s.assignIf_wrote s.psw.o rd _ 2).imp fun t hwrote => ?_
  convert hwrote using 1
  cases s.psw.o <;> simp

/-- SAT of a wrapped result whose O and S are those of the exact one. -/
theorem sat_saturates {t : State} {rd : Reg} {x : Int} (ho : t.psw.o = true ↔ x ≠ (t.reg rd).toInt)
    (hs : t.psw.s = true ↔ (t.reg rd).toInt < 0)
    (hmod : x = (t.reg rd).toInt ∨ x = (t.reg rd).toInt + 2 ^ 32 ∨ x = (t.reg rd).toInt - 2 ^ 32)
    (hlow : -2 ^ 32 ≤ x) (hhigh : x < 2 ^ 32) :
    Completes (.sat rd) t fun u => (u.reg rd).toInt = max (-2 ^ 31) (min (2 ^ 31 - 1) x) :=
  Reaches.imp (sat_wrote t rd) fun _ hwrote =>
    (congrArg BitVec.toInt hwrote.value).trans (saturated_toInt ho hs hmod hlow hhigh)

/-- What an instruction reaches holds of its next state. -/
theorem Reaches.of_next {o : Out} {P : State → Prop} {t : State} (h : Reaches o P) (ht : o = .next t) : P t := by
  obtain ⟨u, hu, hP⟩ := h
  cases hu.symm.trans ht
  exact hP

theorem sat_after_add {s t : State} {rs rs2 rd : Reg} (h : exec (.addRRR rs rs2 rd) s = .next t) :
    Completes (.sat rd) t fun u =>
      (u.reg rd).toInt = max (-2 ^ 31) (min (2 ^ 31 - 1) ((s.reg rs2).toInt + (s.reg rs).toInt)) := by
  obtain ⟨r, hflags, hwrote⟩ := (s.finish_sum rd (s.reg rs2) (s.reg rs) false 3).of_next h
  obtain rfl := hwrote.value
  have hvalue := hflags.value
  have hoverflow := hflags.overflow
  have ha := (s.reg rs2).isLt
  have hb := (s.reg rs).isLt
  simp only [Bool.toNat_false, Nat.cast_zero, add_zero] at hvalue hoverflow
  refine sat_saturates hoverflow hflags.zs.s ?_ ?_ ?_ <;>
    simp only [BitVec.toInt_eq_toNat_cond] <;> omega

theorem sat_after_sub {s t : State} {rs rs2 rd : Reg} (h : exec (.subRRR rs rs2 rd) s = .next t) :
    Completes (.sat rd) t fun u =>
      (u.reg rd).toInt = max (-2 ^ 31) (min (2 ^ 31 - 1) ((s.reg rs2).toInt - (s.reg rs).toInt)) := by
  obtain ⟨r, hflags, hwrote⟩ := (s.finish_difference rd (s.reg rs2) (s.reg rs) false 3).of_next h
  obtain rfl := hwrote.value
  have hvalue := hflags.value
  have hoverflow := hflags.overflow
  have ha := (s.reg rs2).isLt
  have hb := (s.reg rs).isLt
  simp only [Bool.toNat_false, Nat.cast_zero, add_zero, sub_zero] at hvalue hoverflow
  refine sat_saturates hoverflow hflags.zs.s ?_ ?_ ?_ <;>
    simp only [BitVec.toInt_eq_toNat_cond] <;> omega

/-! ### SATR -/

theorem State.setTriple_frame (s : State) (hi mid lo : Word) : Frame [4, 5, 6] [] s (s.setTriple hi mid lo) :=
  (((Frame.refl [4, 5, 6] [] s).setReg (by simp) hi).setReg (by simp) mid).setReg (by simp) lo

theorem State.reg_setTriple (s : State) (hi mid lo : Word) :
    (s.setTriple hi mid lo).reg 6 = hi ∧ (s.setTriple hi mid lo).reg 5 = mid ∧ (s.setTriple hi mid lo).reg 4 = lo := by
  simp [State.setTriple, State.reg_setReg]

theorem State.setTriple_pc (s : State) (hi mid lo : Word) : (s.setTriple hi mid lo).pc = s.pc := by
  simp [State.setTriple]

/-- Settles O28: SAT by its two limits, SATR by the three words it writes. -/
theorem saturationGivesTheNearestLimit : Obligations.SaturationGivesTheNearestLimit := by
  intro s rd
  refine ⟨sat_wrote s rd, fun _ _ _ => sat_after_add, fun _ _ _ => sat_after_sub, ?_⟩
  rw [Completes, exec_satr, execSatr]
  cases ho : s.psw.o with
  | false =>
    exact ⟨_, rfl, fun _ => ⟨rfl, rfl, rfl⟩, nofun, nofun, rfl, (Frame.refl _ _ s).advance 2⟩
  | true =>
    cases hs : s.psw.s with
    | false =>
      exact ⟨_, rfl, nofun, fun _ _ => s.reg_setTriple _ _ _, nofun, by simp [State.after, State.setTriple_pc],
        (s.setTriple_frame _ _ _).advance 2⟩
    | true =>
      exact ⟨_, rfl, nofun, nofun, fun _ _ => s.reg_setTriple _ _ _, by simp [State.after, State.setTriple_pc],
        (s.setTriple_frame _ _ _).advance 2⟩

end Sys2Proof.Machine
end

section
/-! Shifts and rotates: their values, the last bit out and the overflow of a left shift as numbers and bits
(R261 to R264, R268 to R270). -/

namespace Sys2Proof.Machine

/-! ### Counts and carries -/

/-- A register count is the low 5 bits of the register (R263, R268). -/
theorem State.shiftCount_eq (s : State) (r : Reg) : s.shiftCount r = (s.reg r).toNat % 32 := by
  rw [State.shiftCount, BitVec.extractLsb'_toNat, Nat.shiftRight_zero]

theorem lastOutRight_iff (a : Word) (k : Nat) : lastOutRight a k = true ↔ k ≠ 0 ∧ a.getLsbD (k - 1) = true := by
  simp [lastOutRight]

/-- A result that sets C, Z and S leaves O and the mode as they were. -/
theorem SamePsw.of_setZS_carry (s : State) (r : Word) (c : Bool) :
    SamePsw [.c, .z, .s] s (s.withPsw { s.psw.setZS r with c := c }) :=
  ⟨fun
    | .o, _ | .i, _ | .u, _ => rfl
    | .c, hb | .z, hb | .s, hb => absurd (by decide) hb, rfl, rfl⟩

/-! ### Right shifts -/

theorem State.finish_shar (s : State) (rd : Reg) (a : Word) (k n : Nat) :
    Reaches (s.finish rd (sharFlags a k s.psw) n) (ShiftedArithmetic rd a k n s) :=
  (s.finish_wrote rd n (.of_sameMode ⟨rfl, rfl, rfl, rfl⟩) (by decide)).imp fun t ⟨hpsw, hwrote⟩ => by
    refine ⟨a.sshiftRight k, ?_, ?_, by rw [hpsw]; rfl, .of_fields (by rw [hpsw]; rfl) (by rw [hpsw]; rfl), hwrote⟩
    · rw [BitVec.toInt_sshiftRight, Int.shiftRight_eq_div_pow, Nat.cast_pow, Nat.cast_ofNat]
    · rw [hpsw]
      exact lastOutRight_iff a k

theorem State.finish_shlr (s : State) (rd : Reg) (a : Word) (k n : Nat) :
    Reaches (s.finish rd (shlrFlags a k s.psw) n) (ShiftedRight rd a k n s) :=
  (s.finish_wrote rd n (.of_setZS_carry s _ _) (by decide)).imp fun t ⟨hpsw, hwrote⟩ => by
    refine ⟨a >>> k, ?_, ?_, .of_fields (by rw [hpsw]; rfl) (by rw [hpsw]; rfl), hwrote⟩
    · rw [BitVec.toNat_ushiftRight, Nat.shiftRight_eq_div_pow]
    · rw [hpsw]
      exact lastOutRight_iff a k

/-! ### Left shifts -/

/-- The bits shifted through the sign are alike exactly for a value that fits 32 - k bits (R269). -/
theorem signKept_iff (a : Word) (k : Nat) :
    signKept a k = true ↔ a.toInt / 2 ^ (31 - k) = 0 ∨ a.toInt / 2 ^ (31 - k) = -1 := by
  have htop : (a.sshiftRight (31 - k)).toInt = a.toInt / 2 ^ (31 - k) := by
    rw [BitVec.toInt_sshiftRight, Int.shiftRight_eq_div_pow, Nat.cast_pow, Nat.cast_ofNat]
  rw [signKept, Bool.or_eq_true, beq_iff_eq, beq_iff_eq, ← htop]
  exact or_congr (BitVec.toInt_inj (y := 0#32)).symm (BitVec.toInt_inj (y := BitVec.allOnes 32)).symm

/-- A value fits 32 - k bits exactly where its product by 2^k fits 32 bits. -/
theorem fits_iff {x : Int} {k : Nat} (hk : k < 32) :
    (x / 2 ^ (31 - k) = 0 ∨ x / 2 ^ (31 - k) = -1) ↔ -2 ^ 31 ≤ x * 2 ^ k ∧ x * 2 ^ k < 2 ^ 31 := by
  have hpow : (2 : Int) ^ 31 = 2 ^ (31 - k) * 2 ^ k := by rw [← pow_add]; congr 1; omega
  have hk0 : (0 : Int) < 2 ^ k := by positivity
  have hd0 : (0 : Int) < 2 ^ (31 - k) := by positivity
  rw [hpow, ← neg_mul, mul_le_mul_iff_left₀ hk0, mul_lt_mul_iff_left₀ hk0, Int.ediv_eq_iff_of_pos hd0,
    Int.ediv_eq_iff_of_pos hd0]
  omega

/-- The product by 2^k is read back from the shifted word exactly where it fits. -/
theorem toInt_shiftLeft_eq_iff (a : Word) (k : Nat) :
    (a <<< k).toInt = a.toInt * 2 ^ k ↔ -2 ^ 31 ≤ a.toInt * 2 ^ k ∧ a.toInt * 2 ^ k < 2 ^ 31 := by
  have hpow : BitVec.ofInt 32 (2 ^ k) = BitVec.twoPow 32 k := by
    refine BitVec.eq_of_toNat_eq ?_
    rw [BitVec.toNat_twoPow, ← BitVec.toNat_ofNat, ← BitVec.ofInt_natCast, Nat.cast_pow, Nat.cast_ofNat]
  have hshift : a <<< k = BitVec.ofInt 32 (a.toInt * 2 ^ k) := by
    rw [BitVec.shiftLeft_eq_mul_twoPow, BitVec.ofInt_mul, BitVec.ofInt_toInt, hpow]
  constructor
  · intro h
    rw [← h]
    exact ⟨BitVec.le_toInt _, BitVec.toInt_lt⟩
  · rintro ⟨hlow, hhigh⟩
    rw [hshift]
    exact BitVec.toInt_ofInt_eq_self (by decide) hlow hhigh

theorem State.finish_shll (s : State) (rd : Reg) (a : Word) {k : Nat} (hk : k < 32) (n : Nat) :
    Reaches (s.finish rd (shllFlags a k s.psw) n) (ShiftedLeft rd a k n s) :=
  (s.finish_wrote rd n (.of_sameMode ⟨rfl, rfl, rfl, rfl⟩) (by decide)).imp fun t ⟨hpsw, hwrote⟩ => by
    refine ⟨a <<< k, ?_, ?_, ?_, .of_fields (by rw [hpsw]; rfl) (by rw [hpsw]; rfl), hwrote⟩
    · rw [BitVec.toNat_shiftLeft, Nat.shiftLeft_eq]
    · rw [hpsw]
      simp [shllFlags]
    · have hkept : signKept a k = true ↔ (a <<< k).toInt = a.toInt * 2 ^ k :=
        (signKept_iff a k).trans ((fits_iff hk).trans (toInt_shiftLeft_eq_iff a k).symm)
      rw [hpsw]
      simp only [shllFlags, Bool.and_eq_true, bne_iff_ne, Bool.not_eq_true', ← Bool.not_eq_true, hkept,
        ne_comm (b := (a <<< k).toInt)]
      refine and_iff_right_of_imp fun hne => ?_
      rintro rfl
      simp at hne

/-- Settles O29: each form by its count, 0 to 31. -/
theorem shiftsGiveValueAndFlags : Obligations.ShiftsGiveValueAndFlags := by
  rintro s rs rs2 rd imm _ rfl
  rw [← s.shiftCount_eq]
  have hcount : s.shiftCount rs < 32 := BitVec.isLt _
  exact ⟨s.finish_shar rd _ _ 2, s.finish_shar rd _ _ 3, s.finish_shar rd _ _ 3, s.finish_shlr rd _ _ 2,
    s.finish_shlr rd _ _ 3, s.finish_shlr rd _ _ 3, s.finish_shll rd _ imm.isLt 2, s.finish_shll rd _ hcount 3,
    s.finish_shll rd _ imm.isLt 3⟩

/-! ### Rotates -/

theorem getLsbD_rotateLeft_add (a : Word) {j k : Nat} (hj : j < 32) (hk : k < 32) :
    (a.rotateLeft k).getLsbD ((j + k) % 32) = a.getLsbD j := by
  rw [BitVec.getLsbD_rotateLeft, Nat.mod_eq_of_lt hk]
  by_cases hwrap : j + k < 32
  · rw [Nat.mod_eq_of_lt hwrap]
    simp [hwrap]
  · rw [Nat.mod_eq_sub_mod (not_lt.1 hwrap), Nat.mod_eq_of_lt (by omega)]
    have hlt : j + k - 32 < k := by omega
    simp only [hlt, decide_true, cond_true]
    congr 1
    omega

theorem getLsbD_rotateRight_add (a : Word) {j k : Nat} (hj : j < 32) (hk : k < 32) :
    (a.rotateRight k).getLsbD j = a.getLsbD ((j + k) % 32) := by
  rw [BitVec.getLsbD_rotateRight, Nat.mod_eq_of_lt hk]
  by_cases hwrap : j + k < 32
  · have hlt : j < 32 - k := by omega
    simp [Nat.mod_eq_of_lt hwrap, hlt, Nat.add_comm]
  · have hge : ¬j < 32 - k := by omega
    rw [Nat.mod_eq_sub_mod (not_lt.1 hwrap), Nat.mod_eq_of_lt (by omega)]
    simp only [hge, decide_false, cond_false, hj, decide_true, Bool.true_and]
    congr 1
    omega

theorem State.finish_rotl (s : State) (rd : Reg) (a : Word) {k : Nat} (hk : k < 32) (n : Nat) :
    Reaches (s.finish rd (rotlFlags a k s.psw) n) (RotatedLeft rd a k n s) :=
  (s.finish_wrote rd n (.of_setZS_carry s _ _) (by decide)).imp fun t ⟨hpsw, hwrote⟩ =>
    ⟨a.rotateLeft k, fun _ hj => getLsbD_rotateLeft_add a hj hk, by rw [hpsw]; rfl,
      .of_fields (by rw [hpsw]; rfl) (by rw [hpsw]; rfl), hwrote⟩

theorem State.finish_rotr (s : State) (rd : Reg) (a : Word) {k : Nat} (hk : k < 32) (n : Nat) :
    Reaches (s.finish rd (rotrFlags a k s.psw) n) (RotatedRight rd a k n s) :=
  (s.finish_wrote rd n (.of_setZS_carry s _ _) (by decide)).imp fun t ⟨hpsw, hwrote⟩ =>
    ⟨a.rotateRight k, fun _ hj => getLsbD_rotateRight_add a hj hk, by rw [hpsw]; rfl,
      .of_fields (by rw [hpsw]; rfl) (by rw [hpsw]; rfl), hwrote⟩

/-- ROLC moves every bit up by one and the carry into bit 0. -/
theorem getLsbD_rolcFlags (a : Word) (p : Psw) :
    (rolcFlags a p).1.getLsbD 0 = p.c ∧ ∀ j < 31, (rolcFlags a p).1.getLsbD (j + 1) = a.getLsbD j :=
  ⟨BitVec.getLsbD_append.trans (by simp), fun j hj => BitVec.getLsbD_append.trans (by simp [hj])⟩

/-- RORC moves every bit down by one and the carry into bit 31. -/
theorem getLsbD_rorcFlags (a : Word) (p : Psw) :
    (rorcFlags a p).1.getLsbD 31 = p.c ∧ ∀ j < 31, (rorcFlags a p).1.getLsbD j = a.getLsbD (j + 1) :=
  ⟨BitVec.getLsbD_append.trans (by simp), fun j hj => BitVec.getLsbD_append.trans (by simp [hj, Nat.add_comm])⟩

theorem State.finish_rolc (s : State) (rd : Reg) (a : Word) (n : Nat) :
    Reaches (s.finish rd (rolcFlags a s.psw) n) fun t => ∃ r : Word, r.getLsbD 0 = s.psw.c ∧
      (∀ j < 31, r.getLsbD (j + 1) = a.getLsbD j) ∧ t.psw.c = a.getLsbD 31 ∧ ZsOf r t ∧
      Wrote rd r [.c, .z, .s] n s t :=
  (s.finish_wrote rd n (.of_setZS_carry s _ _) (by decide)).imp fun t ⟨hpsw, hwrote⟩ => by
    obtain ⟨hlow, hbits⟩ := getLsbD_rolcFlags a s.psw
    exact ⟨_, hlow, hbits, by rw [hpsw]; rfl, .of_fields (by rw [hpsw]; rfl) (by rw [hpsw]; rfl), hwrote⟩

theorem State.finish_rorc (s : State) (rd : Reg) (a : Word) (n : Nat) :
    Reaches (s.finish rd (rorcFlags a s.psw) n) fun t => ∃ r : Word, r.getLsbD 31 = s.psw.c ∧
      (∀ j < 31, r.getLsbD j = a.getLsbD (j + 1)) ∧ t.psw.c = a.getLsbD 0 ∧ ZsOf r t ∧
      Wrote rd r [.c, .z, .s] n s t :=
  (s.finish_wrote rd n (.of_setZS_carry s _ _) (by decide)).imp fun t ⟨hpsw, hwrote⟩ => by
    obtain ⟨hhigh, hbits⟩ := getLsbD_rorcFlags a s.psw
    exact ⟨_, hhigh, hbits, by rw [hpsw]; rfl, .of_fields (by rw [hpsw]; rfl) (by rw [hpsw]; rfl), hwrote⟩

/-- Settles O30. -/
theorem rotatesMoveEveryBit : Obligations.RotatesMoveEveryBit := by
  rintro s rs rd imm _ rfl
  rw [← s.shiftCount_eq]
  have hcount : s.shiftCount rs < 32 := BitVec.isLt _
  exact ⟨s.finish_rotl rd _ imm.isLt 3, s.finish_rotl rd _ hcount 3, s.finish_rotr rd _ imm.isLt 3,
    s.finish_rotr rd _ hcount 3, s.finish_rolc rd _ 2, s.finish_rorc rd _ 2⟩

end Sys2Proof.Machine
end

section
/-! One iteration of the string moves and of SSTR: the element stored, the pointers and the PC (R500 to R507). -/

namespace Sys2Proof.Machine

/-! ### Counts and distances -/

/-- The iteration is the last one exactly for a count of 1 (R501). -/
theorem last_iff (count : Word) : (count - 1 == 0) = true ↔ count = 1 := by
  rw [beq_iff_eq]
  exact sub_eq_zero

theorem overlaps_iff (distance count : Word) :
    overlaps distance count = true ↔ 0 < distance.toNat ∧ distance.toNat < count.toNat := by
  rw [overlaps, Bool.and_eq_true, bne_iff_ne, decide_eq_true_iff, BitVec.lt_def, Nat.pos_iff_ne_zero]
  exact and_congr_left' (not_congr (BitVec.toNat_inj (y := 0#32)).symm)

/-- A move from equal pointers, or over a distance of the count at least, overwrites no byte it has still to read. -/
theorem overlaps_eq_false {a b count : Word} (h : a = b ∨ count.toNat ≤ (a - b).toNat) :
    overlaps (a - b) count = false := by
  rw [Bool.eq_false_iff, Ne, overlaps_iff]
  rintro ⟨hpos, hlt⟩
  rcases h with rfl | h
  · rw [BitVec.sub_self] at hpos
    exact absurd hpos (by decide)
  · omega

/-- A move that would overwrite bytes it has still to read is refused (R502, P3). -/
theorem State.unlessDone_refused (s : State) {distance : Word} (k : Out) (h3 : s.reg 3 ≠ 0)
    (h : overlaps distance (s.reg 3) = true) :
    s.unlessDone (if overlaps distance (s.reg 3) then .refused .stringOverlap else k) = .refused .stringOverlap :=
  (s.unlessDone_eq _ h3).trans (if_pos h)

theorem State.unlessDone_moves (s : State) {distance : Word} (k : Out) (h3 : s.reg 3 ≠ 0)
    (h : overlaps distance (s.reg 3) = false) :
    s.unlessDone (if overlaps distance (s.reg 3) then .refused .stringOverlap else k) = k :=
  (s.unlessDone_eq _ h3).trans (if_neg (by simp [h]))

/-! ### The end of an iteration -/

theorem State.endIteration_pc (t : State) (last : Bool) :
    (t.endIteration last).pc = if last then t.pc + 2 else t.pc := by
  cases last <;> rfl

@[simp] theorem State.reg_endIteration (t : State) (last : Bool) (r : Reg) :
    (t.endIteration last).reg r = t.reg r := by
  cases last <;> rfl

@[simp] theorem State.byteAt_endIteration (t : State) (last : Bool) (a : Word) :
    (t.endIteration last).byteAt a = t.byteAt a := by
  cases last <;> rfl

@[simp] theorem State.peek_endIteration (t : State) (last : Bool) (a : Word) (sz : Size) :
    (t.endIteration last).peek a sz = t.peek a sz := by
  cases last
  · rfl
  · exact t.peek_advance 2 a sz

@[simp] theorem State.byteAt_clobberReg (t : State) (r : Reg) (a : Word) : (t.clobberReg r).byteAt a = t.byteAt a :=
  t.drawWord.2.byteAt_setReg r _ a

/-- The last iteration that leaves R1 and R2 free changes nothing else but the PC. -/
theorem State.endAndClobber_last (t : State) :
    (t.endAndClobber true).pc = t.pc + 2 ∧ (t.endAndClobber true).reg 3 = t.reg 3 ∧
      ∀ a, (t.endAndClobber true).byteAt a = t.byteAt a :=
  ⟨by simp [State.endAndClobber, State.after], by simp [State.endAndClobber, State.reg_clobberReg],
    fun a => ((t.clobberReg 1).byteAt_clobberReg 2 a).trans (t.byteAt_clobberReg 1 a)⟩

namespace FrameStore

variable {regs : List Reg} {a : Word} {n : Nat} {s t : State}

theorem drawWord (h : FrameStore regs a n s t) : FrameStore regs a n s t.drawWord.2 :=
  ⟨⟨h.regs.regs, h.regs.otherSp⟩, h.psw, h.control.withFree t.acc _, h.fpsw, h.acc, h.memory⟩

theorem clobberReg (h : FrameStore regs a n s t) {r : Reg} (hr : r ∈ regs) : FrameStore regs a n s (t.clobberReg r) :=
  h.drawWord.setReg hr _

theorem setPointers (h : FrameStore regs a n s t) (h1 : 1 ∈ regs) (h2 : 2 ∈ regs) (h3 : 3 ∈ regs) (r1 r2 r3 : Word) :
    FrameStore regs a n s (t.setPointers r1 r2 r3) := ((h.setReg h1 r1).setReg h2 r2).setReg h3 r3

theorem endIteration (h : FrameStore regs a n s t) (last : Bool) : FrameStore regs a n s (t.endIteration last) := by
  cases last
  · exact h
  · exact h.advance 2

theorem endAndClobber (h : FrameStore regs a n s t) (h1 : 1 ∈ regs) (h2 : 2 ∈ regs) (last : Bool) :
    FrameStore regs a n s (t.endAndClobber last) := by
  cases last
  · exact h
  · exact ((h.clobberReg h1).clobberReg h2).advance 2

end FrameStore

/-! ### Pointers -/

theorem State.reg_setPointers (s : State) (r1 r2 r3 : Word) :
    (s.setPointers r1 r2 r3).reg 1 = r1 ∧ (s.setPointers r1 r2 r3).reg 2 = r2 ∧
      (s.setPointers r1 r2 r3).reg 3 = r3 := by
  simp [State.setPointers, State.reg_setReg]

@[simp] theorem State.setPointers_pc (s : State) (r1 r2 r3 : Word) : (s.setPointers r1 r2 r3).pc = s.pc := by
  simp [State.setPointers]

@[simp] theorem State.byteAt_setPointers (s : State) (r1 r2 r3 a : Word) :
    (s.setPointers r1 r2 r3).byteAt a = s.byteAt a := by
  simp [State.setPointers, State.byteAt_setReg]

/-! ### One moved byte -/

/-- The state after one byte went from R2 to R1, before the iteration ends (R504, R505, R506). -/
def State.movedByte (s : State) (step : Word) : State :=
  (s.poke (s.reg 1) .b (s.peek (s.reg 2) .b)).setPointers (s.reg 1 + step) (s.reg 2 + step) (s.reg 3 - 1)

theorem State.moveByte_eq (s : State) (step : Word) (k : Word → State → Out) (hr : s.Readable (s.reg 2) 1)
    (hw : s.Writable (s.reg 1) 1) : s.moveByte step k = k (s.peek (s.reg 2) .b) (s.movedByte step) :=
  (s.load_eq (s.reg 2) .b _ hr).trans (s.store_eq (s.reg 1) .b _ _ hw)

theorem State.movedByte_frame (s : State) (step : Word) : FrameStore [1, 2, 3] (s.reg 1) 1 s (s.movedByte step) :=
  (FrameStore.poke [1, 2, 3] s (s.reg 1) .b _).setPointers (by simp) (by simp) (by simp) _ _ _

theorem State.byteAt_poke_peek (s : State) (a b : Word) (hm : Memory.wf s.mem = true) :
    (s.poke a .b (s.peek b .b)).byteAt a = s.byteAt b := by
  refine BitVec.eq_of_toNat_eq ?_
  rw [← State.peek_byte_toNat, s.peek_poke_same a .b _ hm, zeroExtend_toNat, s.peek_byte_toNat b]
  exact Nat.mod_eq_of_lt (s.byteAt b).isLt

theorem State.movedByte_byteAt (s : State) (step : Word) (hm : Memory.wf s.mem = true) :
    (s.movedByte step).byteAt (s.reg 1) = s.byteAt (s.reg 2) :=
  (State.byteAt_setPointers ..).trans (s.byteAt_poke_peek _ _ hm)

theorem State.movedByte_pc (s : State) (step : Word) : (s.movedByte step).pc = s.pc := by
  simp [State.movedByte]

theorem State.movedByte_reg (s : State) (step : Word) :
    (s.movedByte step).reg 1 = s.reg 1 + step ∧ (s.movedByte step).reg 2 = s.reg 2 + step ∧
      (s.movedByte step).reg 3 = s.reg 3 - 1 := State.reg_setPointers ..

/-- One iteration of SMOVF and SMOVB (R504, R505). -/
theorem State.moveByte_moves (s : State) (step : Word) (hm : Memory.wf s.mem = true) (hr : s.Readable (s.reg 2) 1)
    (hw : s.Writable (s.reg 1) 1) :
    Reaches (s.moveByte step fun _ t => .next (t.endIteration (s.reg 3 - 1 == 0))) fun t =>
      t.byteAt (s.reg 1) = s.byteAt (s.reg 2) ∧ t.reg 1 = s.reg 1 + step ∧ t.reg 2 = s.reg 2 + step ∧
      t.reg 3 = s.reg 3 - 1 ∧ t.pc = (if s.reg 3 = 1 then s.pc + 2 else s.pc) ∧
      FrameStore [1, 2, 3] (s.reg 1) 1 s t := by
  obtain ⟨h1, h2, h3⟩ := s.movedByte_reg step
  refine ⟨_, s.moveByte_eq step _ hr hw, ?_, ?_, ?_, ?_, ?_, (s.movedByte_frame step).endIteration _⟩
  · rw [State.byteAt_endIteration, s.movedByte_byteAt step hm]
  · rw [State.reg_endIteration, h1]
  · rw [State.reg_endIteration, h2]
  · rw [State.reg_endIteration, h3]
  · simp only [State.endIteration_pc, s.movedByte_pc, last_iff]

/-- One iteration of SMOVU, which also ends after a byte of 0 (R506). -/
theorem State.moveByte_movesUntilZero (s : State) (hm : Memory.wf s.mem = true) (hr : s.Readable (s.reg 2) 1)
    (hw : s.Writable (s.reg 1) 1) :
    Reaches (s.moveByte 1 fun v t => .next (t.endAndClobber (v == 0 || s.reg 3 - 1 == 0))) fun t =>
      t.byteAt (s.reg 1) = s.byteAt (s.reg 2) ∧ t.reg 3 = s.reg 3 - 1 ∧
      (s.byteAt (s.reg 2) = 0 ∨ s.reg 3 = 1 → t.pc = s.pc + 2) ∧
      (s.byteAt (s.reg 2) ≠ 0 → s.reg 3 ≠ 1 → t.pc = s.pc ∧ t.reg 1 = s.reg 1 + 1 ∧ t.reg 2 = s.reg 2 + 1) ∧
      FrameStore [1, 2, 3] (s.reg 1) 1 s t := by
  obtain ⟨h1, h2, h3⟩ := s.movedByte_reg 1
  have hzero : s.peek (s.reg 2) .b = 0 ↔ s.byteAt (s.reg 2) = 0 := by
    rw [← BitVec.toNat_inj, ← BitVec.toNat_inj (x := s.byteAt _), s.peek_byte_toNat]
    rfl
  have hlast : (s.peek (s.reg 2) .b == 0 || s.reg 3 - 1 == 0) = true ↔ s.byteAt (s.reg 2) = 0 ∨ s.reg 3 = 1 := by
    rw [Bool.or_eq_true, last_iff, beq_iff_eq, hzero]
  have hframe := (s.movedByte_frame 1).endAndClobber (by simp) (by simp)
    (s.peek (s.reg 2) .b == 0 || s.reg 3 - 1 == 0)
  refine ⟨_, s.moveByte_eq 1 _ hr hw, ?_⟩
  cases hl : s.peek (s.reg 2) .b == 0 || s.reg 3 - 1 == 0 with
  | true =>
    obtain ⟨hpc, hreg, hbyte⟩ := (s.movedByte 1).endAndClobber_last
    rw [hl] at hframe
    refine ⟨(hbyte _).trans (s.movedByte_byteAt 1 hm), hreg.trans h3, fun _ => hpc.trans ?_, fun hb hc => ?_, hframe⟩
    · rw [s.movedByte_pc]
    · exact absurd (hlast.1 hl) (not_or.2 ⟨hb, hc⟩)
  | false =>
    rw [hl] at hframe
    exact ⟨s.movedByte_byteAt 1 hm, h3, fun h => absurd (hlast.2 h) (Bool.eq_false_iff.1 hl),
      fun _ _ => ⟨s.movedByte_pc 1, h1, h2⟩, hframe⟩

/-! ### SSTR -/

theorem State.setReg_self (s : State) (r : Reg) : s.setReg r (s.reg r) = s := by
  unfold State.setReg State.reg
  split
  · unfold State.setSp State.sp
    split <;> simp [*]
  · simp

/-- Pointers of which R2 keeps its value. -/
theorem State.setPointers_keep (s : State) (r1 r3 : Word) :
    s.setPointers r1 (s.reg 2) r3 = (s.setReg 1 r1).setReg 3 r3 := by
  have h2 : s.reg 2 = (s.setReg 1 r1).reg 2 := (s.reg_setReg_ne r1 (by decide)).symm
  rw [State.setPointers, h2, State.setReg_self]

/-- One iteration of SSTR, which leaves R2 as it was (R507). -/
theorem sstr_stores (s : State) (sz : Size) (h3 : s.reg 3 ≠ 0) (hm : Memory.wf s.mem = true)
    (hw : s.Writable (s.reg 1) sz.bytes) :
    Completes (.sstr sz) s fun t =>
      t.peek (s.reg 1) sz = sz.zeroExtend (s.reg 2) ∧ t.reg 1 = s.reg 1 + sz.word ∧ t.reg 3 = s.reg 3 - 1 ∧
      t.pc = (if s.reg 3 = 1 then s.pc + 2 else s.pc) ∧ FrameStore [1, 3] (s.reg 1) sz.bytes s t := by
  have hexec : exec (.sstr sz) s = .next ((((s.poke (s.reg 1) sz (s.reg 2)).setReg 1 (s.reg 1 + sz.word)).setReg 3
      (s.reg 3 - 1)).endIteration (s.reg 3 - 1 == 0)) := by
    rw [exec_sstr, execSstr, s.unlessDone_eq _ h3, s.store_eq _ sz _ _ hw, ← State.setPointers_keep, State.reg_poke]
  refine ⟨_, hexec, ?_, ?_, ?_, ?_, ?_⟩
  · rw [State.peek_endIteration, State.peek_setReg, State.peek_setReg, s.peek_poke_same _ sz _ hm]
  · rw [State.reg_endIteration, State.reg_setReg_ne _ _ (by decide), State.reg_setReg_same]
  · rw [State.reg_endIteration, State.reg_setReg_same]
  · simp only [State.endIteration_pc, State.setReg_pc, State.poke_pc, last_iff]
  · exact (((FrameStore.poke [1, 3] s _ sz _).setReg (by simp) _).setReg (by simp) _).endIteration _

/-- Settles O50: with a count of 0 by `unlessDone`, else by the iteration of each instruction. -/
theorem stringMovesGoElementByElement : Obligations.StringMovesGoElementByElement := by
  intro s sz n hm
  refine ⟨fun h3 i hi => ?_, fun h3 => ?_, fun h3 hn => ⟨fun h0 hlt => ?_, fun h0 hlt => ?_,
    fun hr hw => ⟨fun hd => ?_, fun hd => ?_⟩, ?_⟩⟩
  · have hdone : exec i s = .next (s.advance 2) := by
      simp only [List.mem_cons, List.not_mem_nil, or_false] at hi
      rcases hi with rfl | rfl | rfl | rfl | rfl | rfl | rfl <;> exact s.unlessDone_done _ h3
    rw [Completes, hdone]
    exact s.goto_jumped _
  · rw [Completes, exec_rmpa, execRmpa, State.unlessDone_done (s.markRmpa none) _ h3]
    exact (s.markRmpa none).goto_jumped _
  · have hoverlaps := (overlaps_iff _ _).2 ⟨h0, hlt⟩
    exact ⟨s.unlessDone_refused _ h3 hoverlaps, s.unlessDone_refused _ h3 hoverlaps⟩
  · exact s.unlessDone_refused _ h3 ((overlaps_iff _ _).2 ⟨h0, hlt⟩)
  · have hapart := overlaps_eq_false hd
    rw [Completes, Completes, exec_smovf, exec_smovu, execSmovf, execSmovu, s.unlessDone_moves _ h3 hapart,
      s.unlessDone_moves _ h3 hapart]
    exact ⟨s.moveByte_moves 1 hm hr hw, s.moveByte_movesUntilZero hm hr hw⟩
  · rw [Completes, exec_smovb, execSmovb, s.unlessDone_moves _ h3 (overlaps_eq_false (hd.imp_left Eq.symm))]
    have hmoves := s.moveByte_moves (-1) hm hr hw
    simp only [← sub_eq_add_neg] at hmoves
    exact hmoves
  · subst hn
    exact sstr_stores s sz h3 hm

end Sys2Proof.Machine
end

section
/-! One iteration of RMPA: when it is refused, the exact product it adds, and its frame (R260, R501, P4, P6). -/

namespace Sys2Proof.Machine

/-! ### The 80-bit sum -/

theorem append_sum (v : BitVec 80) : v.extractLsb' 64 16 ++ v.extractLsb' 32 32 ++ v.extractLsb' 0 32 = v := by
  rw [BitVec.extractLsb'_append_extractLsb'_eq_extractLsb' (by rfl),
    BitVec.extractLsb'_append_extractLsb'_eq_extractLsb' (by rfl)]
  exact BitVec.extractLsb'_eq_self

/-- The upper 16 bits of the sum, signed, are the sum divided by 2^64, toward minus infinity. -/
theorem toInt_sum_high (v : BitVec 80) : (v.extractLsb' 64 16).toInt = v.toInt / 2 ^ 64 := by
  have hv := v.isLt
  simp only [BitVec.toInt_eq_toNat_cond, BitVec.extractLsb'_toNat, Nat.shiftRight_eq_div_pow]
  omega

theorem low_signExtend (h : BitVec 16) : (h.signExtend 32).extractLsb' 0 16 = h := by
  refine BitVec.eq_of_getLsbD_eq fun i hi => ?_
  rw [BitVec.getLsbD_extractLsb', Nat.zero_add, BitVec.getLsbD_signExtend, if_pos hi]
  simp [hi, show i < 32 by omega]

theorem State.reg_setRmpaSum (s : State) (v : BitVec 80) :
    (s.setRmpaSum v).reg 4 = v.extractLsb' 0 32 ∧ (s.setRmpaSum v).reg 5 = v.extractLsb' 32 32 ∧
      (s.setRmpaSum v).reg 6 = (v.extractLsb' 64 16).signExtend 32 := by
  simp [State.setRmpaSum, State.reg_setReg]

theorem State.reg_setRmpaSum_low (s : State) (v : BitVec 80) {r : Reg} (hr : r < 4) :
    (s.setRmpaSum v).reg r = s.reg r := by
  have hne (q : Reg) (hq : 4 ≤ q) : r ≠ q := (hr.trans_le hq).ne
  rw [State.setRmpaSum, State.reg_setReg_ne _ _ (hne 6 (by decide)), State.reg_setReg_ne _ _ (hne 5 (by decide)),
    State.reg_setReg_ne _ _ (hne 4 (by decide))]

@[simp] theorem State.rmpaSum_setRmpaSum (s : State) (v : BitVec 80) : (s.setRmpaSum v).rmpaSum = v := by
  obtain ⟨h4, h5, h6⟩ := s.reg_setRmpaSum v
  rw [State.rmpaSum, h4, h5, h6, low_signExtend, append_sum]

theorem rmpaStep_eq (acc : BitVec 80) (a b : Word) : rmpaStep acc a b = acc + BitVec.ofInt 80 (a.toInt * b.toInt) := by
  rw [rmpaStep, BitVec.ofInt_add, BitVec.ofInt_toInt]

/-! ### Starts and refusals -/

theorem State.rmpaUnderWay_iff (s : State) : s.rmpaUnderWay = true ↔ s.rmpa.running = some s.pc := beq_iff_eq

/-- A start asks for a count of at most 00010000h and for an R6 that is the sign of R5:R4 (R260, P4). -/
theorem State.rmpaAdmits_iff (s : State) :
    s.rmpaAdmits = true ↔
      (s.reg 3).toNat ≤ 0x10000 ∧ (s.reg 6).toInt = (if (s.reg 5).toInt < 0 then -1 else 0) := by
  rw [State.rmpaAdmits, Bool.and_eq_true, decide_eq_true_iff, BitVec.le_def, beq_iff_eq, BitVec.msb_eq_toInt,
    ← BitVec.toInt_inj]
  simp only [decide_eq_true_eq, apply_ite BitVec.toInt]
  rfl

theorem rmpa_refused {s : State} (sz : Size) (h3 : s.reg 3 ≠ 0) (hrun : s.rmpaUnderWay = false)
    (hadm : s.rmpaAdmits = false) : exec (.rmpa sz) s = .refused .rmpaOperands :=
  ((s.markRmpa none).unlessDone_eq _ h3).trans (if_neg (by simp [hrun, hadm]))

/-- RMPA under way, or started with operands that P4 allows, iterates where both elements can be read. -/
theorem rmpa_iterates {s : State} {sz : Size} (h3 : s.reg 3 ≠ 0) (hgo : s.rmpaUnderWay = true ∨ s.rmpaAdmits = true)
    (h1 : s.Readable (s.reg 1) sz.bytes) (h2 : s.Readable (s.reg 2) sz.bytes) :
    exec (.rmpa sz) s = .next (s.rmpaIterated sz) := by
  rw [exec_rmpa, execRmpa, State.unlessDone_eq (s.markRmpa none) _ h3, if_pos (by simpa using hgo),
    s.load_eq _ sz _ h1, s.load_eq _ sz _ h2]
  rfl

/-! ### What an iteration leaves -/

/-- The exact product of the elements at two addresses (R260). -/
def State.elementProduct (s : State) (sz : Size) (a b : Word) : Int :=
  (sz.signExtend (s.peek a sz)).toInt * (sz.signExtend (s.peek b sz)).toInt

/-- The sum with the product of the elements that R1 and R2 point to (R260). -/
def State.rmpaNextSum (s : State) (sz : Size) : BitVec 80 :=
  s.rmpaSum + BitVec.ofInt 80 (s.elementProduct sz (s.reg 1) (s.reg 2))

/-- The state with the sum, the pointers and the count of the next iteration. -/
def State.rmpaAdded (s : State) (sz : Size) : State :=
  (s.setPointers (s.reg 1 + sz.word) (s.reg 2 + sz.word) (s.reg 3 - 1)).setRmpaSum (s.rmpaNextSum sz)

theorem State.rmpaIterated_eq (s : State) (sz : Size) : s.rmpaIterated sz =
    if s.reg 3 = 1 then (s.rmpaAdded sz).rmpaEnd (s.rmpaNextSum sz) else (s.rmpaAdded sz).markRmpa (some s.pc) := by
  simp only [State.rmpaIterated, rmpaStep_eq, last_iff]
  rfl

theorem State.rmpaAdded_reg (s : State) (sz : Size) :
    (s.rmpaAdded sz).reg 1 = s.reg 1 + sz.word ∧ (s.rmpaAdded sz).reg 2 = s.reg 2 + sz.word ∧
      (s.rmpaAdded sz).reg 3 = s.reg 3 - 1 := by
  obtain ⟨h1, h2, h3⟩ := s.reg_setPointers (s.reg 1 + sz.word) (s.reg 2 + sz.word) (s.reg 3 - 1)
  exact ⟨(State.reg_setRmpaSum_low _ _ (by decide)).trans h1, (State.reg_setRmpaSum_low _ _ (by decide)).trans h2,
    (State.reg_setRmpaSum_low _ _ (by decide)).trans h3⟩

theorem State.rmpaAdded_rest (s : State) (sz : Size) :
    (s.rmpaAdded sz).pc = s.pc ∧ (s.rmpaAdded sz).psw = s.psw ∧ (s.rmpaAdded sz).rmpa = s.rmpa := by
  simp [State.rmpaAdded, State.setRmpaSum, State.setPointers]

theorem State.rmpaAdded_sum (s : State) (sz : Size) :
    (s.rmpaAdded sz).rmpaSum = s.rmpaNextSum sz ∧
      ((s.rmpaAdded sz).reg 6).toInt = (s.rmpaNextSum sz).toInt / 2 ^ 64 := by
  obtain ⟨-, -, h6⟩ := State.reg_setRmpaSum
    (s.setPointers (s.reg 1 + sz.word) (s.reg 2 + sz.word) (s.reg 3 - 1)) (s.rmpaNextSum sz)
  refine ⟨State.rmpaSum_setRmpaSum .., ?_⟩
  rw [State.rmpaAdded, h6, BitVec.toInt_signExtend_of_le (by decide), toInt_sum_high]

theorem State.rmpaAdded_frame (s : State) (sz : Size) (bits : List PswBit) :
    Frame [1, 2, 3, 4, 5, 6] bits s (s.rmpaAdded sz) :=
  have hpointers : Frame [1, 2, 3, 4, 5, 6] bits s
      (s.setPointers (s.reg 1 + sz.word) (s.reg 2 + sz.word) (s.reg 3 - 1)) :=
    (((Frame.refl _ bits s).setReg (r := 1) (by simp) _).setReg (r := 2) (by simp) _).setReg (r := 3) (by simp) _
  ((hpointers.setReg (r := 4) (by simp) _).setReg (r := 5) (by simp) _).setReg (r := 6) (by simp) _

/-! ### The last iteration -/

/-- The end of RMPA keeps every register but R1 and R2, and so the sum. -/
theorem State.reg_rmpaEnd (t : State) (acc : BitVec 80) {r : Reg} (h1 : r ≠ 1) (h2 : r ≠ 2) :
    (t.rmpaEnd acc).reg r = t.reg r := by
  simp [State.rmpaEnd, State.reg_clobberReg, h1, h2, State.reg_withPsw]

theorem State.rmpaSum_rmpaEnd (t : State) (acc : BitVec 80) : (t.rmpaEnd acc).rmpaSum = t.rmpaSum := by
  simp only [State.rmpaSum, t.reg_rmpaEnd acc (r := 4) (by decide) (by decide),
    t.reg_rmpaEnd acc (r := 5) (by decide) (by decide), t.reg_rmpaEnd acc (r := 6) (by decide) (by decide)]

theorem State.rmpaEnd_rest (t : State) (acc : BitVec 80) :
    (t.rmpaEnd acc).pc = t.pc + 2 ∧ (t.rmpaEnd acc).rmpa = { t.rmpa with running := none } := by
  simp [State.rmpaEnd, State.markRmpa, State.after]

/-- S is the sign of the sum, O says that it leaves 64 bits (R260). -/
theorem State.rmpaEnd_flags (t : State) (acc : BitVec 80) :
    ((t.rmpaEnd acc).psw.s = true ↔ acc.toInt < 0) ∧
      ((t.rmpaEnd acc).psw.o = true ↔ 2 ^ 63 - 1 < acc.toInt ∨ acc.toInt < -2 ^ 63) := by
  have hpsw : (t.rmpaEnd acc).psw =
      { t.psw with s := acc.msb, o := decide (acc.toInt < -2 ^ 63 ∨ 2 ^ 63 - 1 < acc.toInt) } := by
    simp [State.rmpaEnd]
  rw [hpsw, BitVec.msb_eq_toInt]
  exact ⟨decide_eq_true_iff, decide_eq_true_iff.trans or_comm⟩

theorem Frame.trans {regs : List Reg} {bits : List PswBit} {s t u : State} (h : Frame regs bits s t)
    (k : Frame regs bits t u) : Frame regs bits s u where
  regs := ⟨fun r hr => (k.regs.regs r hr).trans (h.regs.regs r hr), k.regs.otherSp.trans h.regs.otherSp⟩
  psw := ⟨fun b hb => (k.psw.bits b hb).trans (h.psw.bits b hb), k.psw.pm.trans h.psw.pm, k.psw.ipl.trans h.psw.ipl⟩
  control := ⟨k.control.intb.trans h.control.intb, k.control.bpc.trans h.control.bpc,
    k.control.bpsw.trans h.control.bpsw, k.control.fintv.trans h.control.fintv,
    k.control.waiting.trans h.control.waiting, k.control.nmiPending.trans h.control.nmiPending,
    k.control.product.trans h.control.product, k.control.inputs.trans h.control.inputs,
    k.control.ack.trans h.control.ack, k.control.rmpa.trans h.control.rmpa⟩
  fpsw := k.fpsw.trans h.fpsw
  acc := k.acc.trans h.acc
  memory a := (k.memory a).trans (h.memory a)

theorem Frame.frameAcc {regs : List Reg} {bits : List PswBit} {s t : State} (h : Frame regs bits s t) :
    FrameAcc regs bits s t := ⟨h.regs, h.psw, h.control, h.fpsw, h.memory⟩

/-- The mark of an RMPA under way is all that marking changes. -/
theorem FrameAcc.markRmpa {regs : List Reg} {bits : List PswBit} {s t : State} (h : FrameAcc regs bits s t)
    (a : Option Word) : FrameAcc regs bits { s with rmpa := (t.markRmpa a).rmpa } (t.markRmpa a) :=
  ⟨⟨h.regs.regs, h.regs.otherSp⟩, ⟨h.psw.bits, h.psw.pm, h.psw.ipl⟩,
    ⟨h.control.intb, h.control.bpc, h.control.bpsw, h.control.fintv, h.control.waiting, h.control.nmiPending,
      h.control.product, h.control.inputs, h.control.ack, rfl⟩, h.fpsw, h.memory⟩

theorem SamePsw.of_signOverflow (s : State) (x o : Bool) :
    SamePsw [.s, .o] s (s.withPsw { s.psw with s := x, o := o }) :=
  ⟨fun
    | .c, _ | .z, _ | .i, _ | .u, _ => rfl
    | .s, hb | .o, hb => absurd (by decide) hb, rfl, rfl⟩

theorem Frame.rmpaEnd {regs : List Reg} {s t : State} (h : Frame regs [.s, .o] s t) (h1 : 1 ∈ regs) (h2 : 2 ∈ regs)
    (acc : BitVec 80) :
    FrameAcc regs [.s, .o] { s with rmpa := (t.rmpaEnd acc).rmpa } (t.rmpaEnd acc) :=
  ((((h.trans (.withPsw (.of_signOverflow t _ _) (by decide))).clobberReg h1).clobberReg h2).clobberAcc 2).markRmpa none

/-! ### The iteration as a whole -/

/-- What one iteration of RMPA does to the sum, the count and the pointers, and at its end to the flags (R260). -/
structure RmpaIteration (sz : Size) (s t : State) : Prop where
  sum : t.rmpaSum = s.rmpaNextSum sz
  high : (t.reg 6).toInt = (s.rmpaNextSum sz).toInt / 2 ^ 64
  count : t.reg 3 = s.reg 3 - 1
  frame : FrameAcc [1, 2, 3, 4, 5, 6] [.s, .o] { s with rmpa := t.rmpa } t
  suspended : t.rmpa.suspended = s.rmpa.suspended
  going : s.reg 3 ≠ 1 → t.reg 1 = s.reg 1 + sz.word ∧ t.reg 2 = s.reg 2 + sz.word ∧ t.pc = s.pc ∧ t.psw = s.psw ∧
    t.acc = s.acc ∧ t.rmpa.running = some s.pc
  last : s.reg 3 = 1 → t.pc = s.pc + 2 ∧ (t.psw.s = true ↔ (s.rmpaNextSum sz).toInt < 0) ∧
    (t.psw.o = true ↔ 2 ^ 63 - 1 < (s.rmpaNextSum sz).toInt ∨ (s.rmpaNextSum sz).toInt < -2 ^ 63) ∧
    t.rmpa.running = none

theorem State.rmpaIterated_iteration (s : State) (sz : Size) : RmpaIteration sz s (s.rmpaIterated sz) := by
  obtain ⟨hsum, hhigh⟩ := s.rmpaAdded_sum sz
  obtain ⟨h1, h2, h3⟩ := s.rmpaAdded_reg sz
  obtain ⟨hpc, hpsw, hrmpa⟩ := s.rmpaAdded_rest sz
  have hframe := s.rmpaAdded_frame sz [.s, .o]
  rw [s.rmpaIterated_eq]
  by_cases hlast : s.reg 3 = 1
  · obtain ⟨hend, hmark⟩ := (s.rmpaAdded sz).rmpaEnd_rest (s.rmpaNextSum sz)
    obtain ⟨hsign, hoverflow⟩ := (s.rmpaAdded sz).rmpaEnd_flags (s.rmpaNextSum sz)
    rw [if_pos hlast]
    exact {
      sum := (State.rmpaSum_rmpaEnd ..).trans hsum
      high := by rw [State.reg_rmpaEnd _ _ (by decide) (by decide), hhigh]
      count := (State.reg_rmpaEnd _ _ (by decide) (by decide)).trans h3
      frame := hframe.rmpaEnd (by simp) (by simp) _
      suspended := by rw [hmark, hrmpa]
      going := fun h => absurd hlast h
      last := fun _ => ⟨by rw [hend, hpc], hsign, hoverflow, by rw [hmark]⟩ }
  · rw [if_neg hlast]
    exact {
      sum := hsum
      high := by rw [State.reg_markRmpa, hhigh]
      count := (State.reg_markRmpa ..).trans h3
      frame := hframe.frameAcc.markRmpa _
      suspended := by rw [State.markRmpa_suspended, hrmpa]
      going := fun _ => ⟨(State.reg_markRmpa ..).trans h1, (State.reg_markRmpa ..).trans h2, hpc, hpsw, hframe.acc, rfl⟩
      last := fun h => absurd h hlast }

/-- Settles O52: a start by what `rmpaAdmits` asks, an iteration by what it leaves. -/
theorem rmpaAccumulatesExactProducts : Obligations.RmpaAccumulatesExactProducts := by
  intro s sz n h3 hn
  rw [← s.rmpaUnderWay_iff, ← s.rmpaAdmits_iff]
  refine ⟨fun hrun hbad => ?_, fun hgo h1 h2 sum hsum => ?_⟩
  · refine rmpa_refused sz h3 (Bool.eq_false_iff.2 (mt s.rmpaUnderWay_iff.1 hrun)) (Bool.eq_false_iff.2 ?_)
    rw [Ne, s.rmpaAdmits_iff, not_and_or, not_le]
    exact hbad
  · subst hn hsum
    obtain ⟨hsum, hhigh, hcount, hframe, hsus, hgoing, hlast⟩ := s.rmpaIterated_iteration sz
    exact ⟨_, rmpa_iterates h3 hgo h1 h2, hsum, hhigh, hcount, hframe, hsus, hgoing, hlast⟩

end Sys2Proof.Machine
end

section
/-! The mark of RMPA (log entry 14): no instruction but RMPA and the returns changes it, and no step but a reset takes
an address from the suspended ones. -/

namespace Sys2Proof.Machine

/-! ### Operations that leave the mark as it is -/

@[simp] theorem State.setPointers_rmpa (s : State) (r1 r2 r3 : Word) : (s.setPointers r1 r2 r3).rmpa = s.rmpa := by
  simp [State.setPointers]

@[simp] theorem State.setTriple_rmpa (s : State) (hi mid lo : Word) : (s.setTriple hi mid lo).rmpa = s.rmpa := by
  simp [State.setTriple]

@[simp] theorem State.setRegs_rmpa (s : State) (rs : List Reg) (vs : List Word) : (s.setRegs rs vs).rmpa = s.rmpa := by
  unfold State.setRegs
  induction rs.zip vs generalizing s with
  | nil => rfl
  | cons p ps ih => exact (ih _).trans (s.setReg_rmpa ..)

/-- Longwords written one after the other, as PUSHM does. -/
theorem State.foldl_poke_rmpa (s : State) (ws : List (Word × Word)) :
    (ws.foldl (fun t w => t.poke w.1 .l w.2) s).rmpa = s.rmpa := by
  induction ws generalizing s with
  | nil => rfl
  | cons w ws ih => exact (ih _).trans (s.poke_rmpa ..)

@[simp] theorem State.endIteration_rmpa (s : State) (last : Bool) : (s.endIteration last).rmpa = s.rmpa := by
  cases last <;> rfl

@[simp] theorem State.endAndClobber_rmpa (s : State) (last : Bool) : (s.endAndClobber last).rmpa = s.rmpa := by
  cases last <;> simp [State.endAndClobber]

@[simp] theorem State.changeBit_rmpa (s : State) (b : PswBit) (v : Bool) : (s.changeBit b v).rmpa = s.rmpa := by
  rw [State.changeBit_eq, State.withPsw_rmpa]

theorem State.supervisorOnly_rmpa (s t : State) (h : t.rmpa = s.rmpa) :
    (s.supervisorOnly t).rmpa = s.rmpa := by
  unfold State.supervisorOnly
  split
  · rfl
  · exact h

@[simp] theorem State.ctrlWrite_rmpa (s : State) (cr : CReg) (v : Word) : (s.ctrlWrite cr v).rmpa = s.rmpa := by
  cases cr with
  | psw | pc | usp => rfl
  | fpsw => exact (apply_ite State.rmpa ..).trans (ite_self _)
  | bpsw | bpc | isp | fintv | intb => exact s.supervisorOnly_rmpa _ rfl

/-! ### exec -/

/-- The instruction completes with the mark of RMPA as it was, or takes an exception. -/
abbrev KeepsMark (s : State) (o : Out) : Prop := RunsTo s (fun t => t.rmpa = s.rmpa) o

namespace KeepsMark

variable {s u : State}

theorem finish {rd : Reg} {r : Word × Psw} {n : Nat} (hu : u.rmpa = s.rmpa) : KeepsMark s (u.finish rd r n) :=
  .next (by simp [hu])

theorem flagsOnly {p : Psw} {n : Nat} (hu : u.rmpa = s.rmpa) : KeepsMark s (u.flagsOnly p n) := .next (by simp [hu])

theorem assign {rd : Reg} {v : Word} {n : Nat} (hu : u.rmpa = s.rmpa) : KeepsMark s (u.assign rd v n) :=
  .next (by simp [hu])

theorem assignIf {c : Bool} {rd : Reg} {v : Word} {n : Nat} : KeepsMark s (s.assignIf c rd v n) :=
  .ite (assign rfl) (.next (by simp))

theorem finishDiv {rd : Reg} {q : Option Word} {n : Nat} : KeepsMark s (s.finishDiv rd q n) := by
  cases q with
  | some v => exact finish rfl
  | none => exact .next (by simp)

theorem fpFinish {rd : Reg} {r : Word × Events} {n : Nat} (hc : Cancelled s u) (hu : u.rmpa = s.rmpa) :
    KeepsMark s (u.fpFinish rd r n) := .fpExecute hc (finish hu)

theorem storeTo {a : Word} {sz : Size} {v : Word} {n : Nat} : KeepsMark s (s.storeTo a sz v n) :=
  .store (.next (by simp))

theorem branchIf {c : Bool} {d : Word} {n : Nat} : KeepsMark s (s.branchIf c d n) :=
  .next ((apply_ite State.rmpa ..).trans (ite_self _))

theorem call {target : Word} {n : Nat} : KeepsMark s (s.call target n) := .push (.next (by simp))

theorem pushSized {sz : Size} {v : Word} {n : Nat} : KeepsMark s (s.pushSized sz v n) := .push (.next (by simp))

end KeepsMark

open KeepsMark in
/-- Every instruction but RMPA and the returns leaves the mark as it was, or is cancelled by an exception. -/
theorem exec_keepsMark (i : Instr) (s : State) (hrmpa : ∀ sz, i ≠ .rmpa sz) (hrte : i ≠ .rte) (hrtfi : i ≠ .rtfi) :
    KeepsMark s (exec i s) := by
  cases i with dsimp only [exec]
  -- a result in a register, with flags
  | absR | absRR | adcImm | adcRR | addUimm4 | addImm3 | addRRR | andUimm4 | andImm | andRRR | negR | negRR | notR
  | notRR | orUimm4 | orImm | orRRR | rolc | rorc | rotlImm | rotlRR | rotrImm | rotrRR | sbbRR | sharImm | sharRR
  | sharImm3 | shllImm | shllRR | shllImm3 | shlrImm | shlrRR | shlrImm3 | subUimm4 | subRRR | xorImm =>
    exact finish rfl
  | addRm | andRm | orRm | subRm | xorRm => exact .withRm fun _ => finish rfl
  | addMx | andMx | orMx | subMx | xorMx => exact .withMx fun _ => finish rfl
  | adcMem | sbbMem => exact .load fun _ => finish rfl
  -- flags only
  | cmpUimm4 | cmpUimm8 | cmpImm | tstImm | btstImm | btstRR => exact flagsOnly rfl
  | cmpRm | tstRm => exact .withRm fun _ => flagsOnly rfl
  | cmpMx | tstMx => exact .withMx fun _ => flagsOnly rfl
  | btstImmMem | btstRMem => exact .load fun _ => flagsOnly rfl
  -- quotients and products
  | divImm | divuImm => exact finishDiv
  | divRm | divuRm => exact .withRm fun _ => finishDiv
  | divMx | divuMx => exact .withMx fun _ => finishDiv
  | emulImm | emuluImm | mulUimm4 | mulImm | mulRRR => exact .next (by simp)
  | emulRm | emuluRm | mulRm => exact .withRm fun _ => .next (by simp)
  | emulMx | emuluMx | mulMx => exact .withMx fun _ => .next (by simp)
  -- a register alone
  | maxImm | minImm | sat | stnz | stz => exact assignIf
  | maxRm | minRm => exact .withRm fun _ => assignIf
  | maxMx | minMx => exact .withMx fun _ => assignIf
  | movUimm4 | movUimm8 | movImm | movRR | revl | revw | bclrImm | bclrRR | bsetImm | bsetRR | bmcndR | bnotImm | bnotRR
  | mvfc | mvfachi | mvfacmi => exact assign rfl
  | movLoadD5 | movLoad | movLoadIdx | movuLoadD5 | movuLoadIdx => exact .load fun _ => assign rfl
  | movLoadAuto | movuLoadAuto => exact .load fun _ => assign (s.setReg_rmpa ..)
  | movuRm sz src rd =>
    cases src with
    | reg r => exact assign rfl
    | mem r d => exact .load fun _ => assign rfl
  | satr => exact .ite (.next (by split <;> simp)) (.next rfl)
  | nop | machi | maclo | mulhi | mullo | mvtachi | mvtaclo | racw => exact .next rfl
  -- floating point
  | faddImm | fdivImm | fsubImm => exact .withFpu (fpFinish (.refl s) rfl)
  | faddRm | fdivRm | fsubRm => exact .withFpu (.withL fun _ => fpFinish (.refl s) rfl)
  | fmulImm => exact .withFpu (fpFinish (.clobberAcc s) rfl)
  | fmulRm => exact .withFpu (.withL fun _ => fpFinish (.clobberAcc s) rfl)
  | fcmpImm => exact .withFpu (.fpExecute (.refl s) (flagsOnly rfl))
  | fcmpRm => exact .withFpu (.withL fun _ => .fpExecute (.refl s) (flagsOnly rfl))
  | ftoiRm | roundRm => exact .withFpu (.withL fun _ => .fpExecute (.refl s) (finish rfl))
  | itofRm => exact .withFpu (.withRm fun _ => fpFinish (.refl s) rfl)
  | itofMx => exact .withFpu (.withMx fun _ => fpFinish (.refl s) rfl)
  -- stores and the stack
  | movStoreD5 | movImmD5 | movImmMem | movStore | movStoreIdx => exact storeTo
  | movMemMem => exact .load fun _ => storeTo
  | movStoreAuto => exact .store (assign (s.poke_rmpa ..))
  | sccnd cd sz dst =>
    cases dst with
    | reg r => exact assign rfl
    | mem r d => exact storeTo
  | xchgRm src rd =>
    cases src with
    | reg r => exact assign (s.setReg_rmpa ..)
    | mem r d => exact .load fun _ => .store (assign (s.poke_rmpa ..))
  | xchgMx => exact .load fun _ => .store (assign (s.poke_rmpa ..))
  | bclrImmMem | bclrRMem | bsetImmMem | bsetRMem | bmcndMem | bnotImmMem | bnotRMem =>
    exact .load fun _ => storeTo
  | pop => exact .popWord fun _ => assign (s.setSp_rmpa _)
  | popm => exact .ite (.loadAll fun _ => .next (by simp)) .refused
  | pushR => exact pushSized
  | pushMem => exact .load fun _ => pushSized
  | pushc => exact .push (.next (by simp))
  | pushm => exact .ite (.storeAll (.next ((State.setSp_rmpa ..).trans (s.foldl_poke_rmpa _)))) .refused
  -- branches
  | bcndS | bcndB | bcndW => exact branchIf
  | braS | braB | braW | braA | braL | jmp => exact .next rfl
  | bsrW | bsrA | bsrL | jsr => exact call
  | rts => exact .popWord fun _ => .next (by simp)
  | rtsd => exact .load fun _ => .next (by simp)
  | rtsdRange => exact .ite (.loadAll fun _ => .next (by simp)) .refused
  -- strings
  | scmpu => exact .ite (.next rfl) (.load fun _ => .load fun _ => .next (by simp))
  | smovb | smovf | smovu => exact .ite (.next rfl) (.ite .refused (.load fun _ => .store (.next (by simp))))
  | sstr => exact .ite (.next rfl) (.store (.next (by simp)))
  | suntil | swhile => exact .ite (.next rfl) (.load fun _ => .next (by simp))
  -- traps
  | brk | int => exact .enter (.refl s) rfl
  -- system instructions
  | popc => exact .popWord fun _ => .next (by simp)
  | setpsw | clrpsw | mvtcImm | mvtcR => exact .next (by simp)
  | mvtipl => exact .ite (.privileged fun _ => .next rfl) (.raise rfl)
  | wait => exact .privileged fun _ => .next rfl
  | rmpa sz => exact absurd rfl (hrmpa sz)
  | rte => exact absurd rfl hrte
  | rtfi => exact absurd rfl hrtfi

/-! ### The suspended addresses -/

/-- Every entry that saves a PC on the stack keeps the suspended addresses. -/
theorem State.entered_mem_suspended (s : State) (e : Exc) (pc : Word) {a : Word} (ha : a ∈ s.rmpa.suspended) :
    a ∈ (s.entered e pc).rmpa.suspended := by
  rw [State.entered_rmpa, RmpaProgress.mem_suspend]
  exact .inr ha

theorem Trapped.mem_suspended {s t : State} (h : Trapped s t) {a : Word} (ha : a ∈ s.rmpa.suspended) :
    a ∈ t.rmpa.suspended := by
  obtain ⟨_, e, pc, ⟨f, acc, k, rfl⟩, -, rfl⟩ := h
  exact State.entered_mem_suspended _ e pc ha

/-- RMPA moves the mark of the one under way only. -/
theorem execRmpa_suspended (s : State) (sz : Size) :
    RunsTo s (fun t => t.rmpa.suspended = s.rmpa.suspended) (execRmpa sz s) := by
  intro t ht
  rcases execRmpa_next ht with ⟨-, rfl⟩ | ⟨-, -, rfl | rfl⟩
  · exact .inl rfl
  · exact .inl (s.rmpaIterated_iteration sz).suspended
  · exact .inr ⟨s, .access, s.pc, .refl s, rfl, rfl⟩

theorem exec_suspended (i : Instr) (s : State) :
    RunsTo s (fun t => t.rmpa.suspended = s.rmpa.suspended) (exec i s) := by
  by_cases hrmpa : ∃ sz, i = .rmpa sz
  · obtain ⟨sz, rfl⟩ := hrmpa
    exact execRmpa_suspended s sz
  · by_cases hrte : i = .rte
    · subst hrte
      exact .privileged fun _ => .loadAll fun _ => .next rfl
    · by_cases hrtfi : i = .rtfi
      · subst hrtfi
        exact .privileged fun _ => .next rfl
      · exact (exec_keepsMark i s (not_exists.1 hrmpa) hrte hrtfi).mono fun _ h => congrArg _ h

theorem exec_mem_suspended {i : Instr} {s t : State} (h : exec i s = .next t) {a : Word} (ha : a ∈ s.rmpa.suspended) :
    a ∈ t.rmpa.suspended :=
  (exec_suspended i s t h).elim (fun hkept => hkept ▸ ha) fun htrap => htrap.mem_suspended ha

theorem State.enter_mem_suspended {s t : State} {e : Exc} {pc : Word} (h : s.enter e pc = .next t) {a : Word}
    (ha : a ∈ s.rmpa.suspended) : a ∈ t.rmpa.suspended := by
  rw [State.enter_next h]
  exact s.entered_mem_suspended e pc ha

theorem State.acceptIrq_mem_suspended {s t : State} {irq : Irq} {fast : Option Nat}
    (h : s.acceptIrq irq fast = .next t) {a : Word} (ha : a ∈ s.rmpa.suspended) : a ∈ t.rmpa.suspended := by
  unfold State.acceptIrq at h
  dsimp only at h
  split at h
  · cases h
    exact (RmpaProgress.mem_suspend ..).2 (.inr ha)
  · exact State.enter_mem_suspended h ha

theorem State.runInstr_mem_suspended {s t : State} (h : s.runInstr = .next t) {a : Word}
    (ha : a ∈ s.rmpa.suspended) : a ∈ t.rmpa.suspended := by
  unfold State.runInstr at h
  split at h
  · exact exec_mem_suspended h ha
  · exact State.enter_mem_suspended h ha
  · exact State.enter_mem_suspended h ha

/-- A step that is no reset takes no address from the suspended ones. -/
theorem step_mem_suspended {s t : State} (hreset : s.input.reset = false) (h : step s = .next t) {a : Word}
    (ha : a ∈ s.rmpa.suspended) : a ∈ t.rmpa.suspended := by
  unfold step at h
  dsimp only at h
  rw [if_neg (by simp [hreset])] at h
  split at h
  · exact State.enter_mem_suspended h ha
  · split at h
    · exact State.acceptIrq_mem_suspended h ha
    · split at h
      · cases h
        exact ha
      · exact State.runInstr_mem_suspended h ha

/-! ### Returns -/

/-- Settles O53. -/
theorem suspendedRmpaResumes : Obligations.SuspendedRmpaResumes := by
  refine ⟨fun s t savedPc hrun hentry => ?_, fun s t hreset h a ha => step_mem_suspended hreset h ha,
    fun s hpm => ⟨fun h0 h4 a ha => ?_, ?_⟩, fun s sz why hrun h => ?_⟩
  · have hrmpa : t.rmpa = s.rmpa.suspend savedPc := by
      rcases hentry with ⟨e, he⟩ | ⟨rfl, level, rfl⟩
      · rw [State.enter_next he, State.entered_rmpa]
      · rfl
    rw [hrmpa, RmpaProgress.mem_suspend]
    exact ⟨rfl, .inl ⟨rfl, hrun⟩⟩
  · subst ha
    rw [Completes, exec_rte, execRte, State.privileged, if_neg (by simp [hpm]), s.returnFromStack_eq h0 h4]
    exact ⟨_, rfl, rfl, rfl⟩
  · rw [Completes, exec_rtfi, execRtfi, State.privileged, if_neg (by simp [hpm])]
    exact ⟨_, rfl, rfl, rfl⟩
  · obtain ⟨-, -, hidle, -⟩ := execRmpa_refused h
    exact absurd (s.rmpaUnderWay_iff.2 hrun) (Bool.eq_false_iff.1 hidle)

end Sys2Proof.Machine
end

section
/-! RMPA run to its end: one step is one iteration, and the iterations add up to the dot product (R260, R501). -/

namespace Sys2Proof.Machine

/-! ### Steps of a state that runs alone -/

theorem State.faultAt_of_noMpu {s : State} (h : s.product.hasMpu = false) (a : Word) (n : Nat) (kind : AccessKind) :
    s.faultAt a n kind = false := by
  rw [State.faultAt, Product.memFault, h, Bool.false_and]

/-- A state that runs alone steps by the two-byte instruction at its PC. -/
theorem State.RunsAlone.step_eq {s : State} {b0 b1 : Byte} {i : Instr} (h : s.RunsAlone b0 b1)
    (hd : decode s.product [b0, b1] = .instr i []) : step s = exec i s.sample := by
  obtain ⟨hmpu, hinputs, hnmi, hwait, -, h0, h1⟩ := h
  have hpc : s.after 0 = s.pc := add_ofNat_zero _
  have hcode : s.sample.codeBytes 2 = [s.byteAt (s.after 0), s.byteAt (s.pc + 1)] := rfl
  rw [hpc, h0, h1] at hcode
  have hfetch : s.sample.fetch = .instr i := State.fetch_eq (n := 2) (by decide) (hcode ▸ hd) fun _ _ =>
    State.faultAt_of_noMpu hmpu ..
  have hinput : s.input = Input.quiet := by rw [State.input, hinputs]; rfl
  simp [step, hinput, Input.quiet, hnmi, hwait, State.accepted, State.runInstr, hfetch]

theorem run_succ {s t : State} (h : step s = .next t) (n : Nat) : run (n + 1) s = run n t := by
  rw [run, h]

theorem decode_rmpa (p : Product) (sz : Size) :
    decode p [0x7F, 0b100011#6 ++ sz.bits] = .instr (.rmpa sz) [] :=
  decodeInvertsEncode p (.rmpa sz) [] rfl (installed_plain rfl rfl)

/-! ### The dot product -/

/-- The dot product of the n elements from `a` on with those from `b` on (R260). -/
def State.dotProduct (s : State) (sz : Size) (a b : Word) (n : Nat) : Int :=
  ((List.range n).map fun k =>
    s.elementProduct sz (a + BitVec.ofNat 32 (k * sz.bytes)) (b + BitVec.ofNat 32 (k * sz.bytes))).sum

theorem element_succ (a : Word) (sz : Size) (k : Nat) :
    a + BitVec.ofNat 32 ((k + 1) * sz.bytes) = a + sz.word + BitVec.ofNat 32 (k * sz.bytes) := by
  rw [Nat.succ_mul, BitVec.ofNat_add, BitVec.add_assoc, BitVec.add_comm (BitVec.ofNat 32 (k * sz.bytes))]
  rfl

theorem State.dotProduct_succ (s : State) (sz : Size) (a b : Word) (n : Nat) :
    s.dotProduct sz a b (n + 1) =
      s.elementProduct sz a b + s.dotProduct sz (a + sz.word) (b + sz.word) n := by
  simp [State.dotProduct, List.range_succ_eq_map, Function.comp_def, element_succ]

theorem State.dotProduct_congr {s t : State} (hp : t.product = s.product) (hm : SameMemory s t) (sz : Size)
    (a b : Word) (n : Nat) : t.dotProduct sz a b n = s.dotProduct sz a b n := by
  have hpeek (c : Word) : t.peek c sz = s.peek c sz := State.peek_congr hp fun _ _ => hm _
  simp only [State.dotProduct, State.elementProduct, hpeek]

/-! ### Runs -/

/-- The state after the last iteration, with the sum in R6:R5:R4 and its S and O (R260). -/
structure RmpaDone (v : BitVec 80) (s t : State) : Prop where
  sum : t.rmpaSum = v
  high : (t.reg 6).toInt = v.toInt / 2 ^ 64
  count : t.reg 3 = 0
  pc : t.pc = s.pc + 2
  sign : t.psw.s = true ↔ v.toInt < 0
  overflow : t.psw.o = true ↔ 2 ^ 63 - 1 < v.toInt ∨ v.toInt < -2 ^ 63
  carry : t.psw.c = s.psw.c
  zero : t.psw.z = s.psw.z
  memory : SameMemory s t

theorem RmpaDone.of_next {v : BitVec 80} {s t u : State} (h : RmpaDone v t u) (hpc : t.pc = s.pc)
    (hpsw : t.psw = s.psw) (hm : SameMemory s t) : RmpaDone v s u :=
  { h with
    pc := hpc ▸ h.pc, carry := hpsw ▸ h.carry, zero := hpsw ▸ h.zero, memory := fun a => (h.memory a).trans (hm a) }

/-- An iteration with a count of 1 is the last one. -/
theorem RmpaIteration.done {s t : State} {sz : Size} (h : RmpaIteration sz s t) (h3 : s.reg 3 = 1) :
    RmpaDone (s.rmpaNextSum sz) s t := by
  obtain ⟨hpc, hsign, hoverflow, -⟩ := h.last h3
  exact {
    sum := h.sum
    high := h.high
    count := by rw [h.count, h3]; rfl
    pc := hpc
    sign := hsign
    overflow := hoverflow
    carry := h.frame.psw.bits .c (by decide)
    zero := h.frame.psw.bits .z (by decide)
    memory := h.frame.memory }

/-- Sampling an input changes no operand. -/
theorem State.rmpaNextSum_sample (s : State) (sz : Size) : s.sample.rmpaNextSum sz = s.rmpaNextSum sz := by
  have hpeek (a : Word) : s.sample.peek a sz = s.peek a sz := State.peek_congr rfl fun _ _ => rfl
  simp only [State.rmpaNextSum, State.rmpaSum, State.elementProduct, hpeek, State.reg_sample]

/-- The sum of one iteration and the dot product of the elements after it. -/
theorem State.rmpaNextSum_add (s : State) (sz : Size) (n : Nat) :
    s.rmpaNextSum sz + BitVec.ofInt 80 (s.dotProduct sz (s.reg 1 + sz.word) (s.reg 2 + sz.word) n) =
      s.rmpaSum + BitVec.ofInt 80 (s.dotProduct sz (s.reg 1) (s.reg 2) (n + 1)) := by
  rw [s.dotProduct_succ, BitVec.ofInt_add, State.rmpaNextSum, BitVec.add_assoc]

/-- A step of RMPA at the PC, under way or started with operands that P4 allows, is one iteration. -/
theorem step_rmpa {s : State} {sz : Size} (h : s.RunsAlone 0x7F (0b100011#6 ++ sz.bits)) (h3 : s.reg 3 ≠ 0)
    (hgo : s.rmpaUnderWay = true ∨ s.rmpaAdmits = true) : step s = .next (s.sample.rmpaIterated sz) := by
  rw [h.step_eq (decode_rmpa _ sz)]
  obtain ⟨hmpu, -⟩ := h
  exact rmpa_iterates (s := s.sample) h3 hgo (State.faultAt_of_noMpu hmpu ..) (State.faultAt_of_noMpu hmpu ..)

/-- An iteration leaves a state that runs alone where it does not move the PC. -/
theorem RmpaIteration.runsAlone {s t : State} {sz : Size} {b0 b1 : Byte} (hit : RmpaIteration sz s t)
    (h : s.RunsAlone b0 b1) (hpc : t.pc = s.pc) (hm : Memory.wf t.mem = true) : t.RunsAlone b0 b1 := by
  obtain ⟨hmpu, hinputs, hnmi, hwait, -, h0, h1⟩ := h
  have hcontrol := hit.frame.control
  have hmem : SameMemory s t := hit.frame.memory
  exact ⟨hcontrol.product ▸ hmpu, hcontrol.inputs.trans hinputs, hcontrol.nmiPending.trans hnmi,
    hcontrol.waiting.trans hwait, hm, hpc ▸ (hmem _).trans h0, hpc ▸ (hmem _).trans h1⟩

theorem State.RunsAlone.sample {s : State} {b0 b1 : Byte} (h : s.RunsAlone b0 b1) : s.sample.RunsAlone b0 b1 := by
  obtain ⟨hmpu, hinputs, hnmi, hwait, hm, h0, h1⟩ := h
  exact ⟨hmpu, by simp [hinputs], by simp [hnmi, State.input, hinputs, Input.quiet], hwait, hm, h0, h1⟩

/-- RMPA with a count of n + 1 ends after as many steps, with the dot product of all its elements added. -/
theorem rmpa_run {sz : Size} (n : Nat) {s : State} (h : s.RunsAlone 0x7F (0b100011#6 ++ sz.bits))
    (hn : (s.reg 3).toNat = n + 1) (hgo : s.rmpaUnderWay = true ∨ s.rmpaAdmits = true) :
    Reaches (run (n + 1) s)
      (RmpaDone (s.rmpaSum + BitVec.ofInt 80 (s.dotProduct sz (s.reg 1) (s.reg 2) (n + 1))) s) := by
  induction n generalizing s with
  | zero =>
    have hone : s.reg 3 = 1 := BitVec.eq_of_toNat_eq hn
    have hdone := ((s.sample.rmpaIterated_iteration sz).done hone).of_next (s := s) rfl rfl fun _ => rfl
    rw [State.rmpaNextSum_sample] at hdone
    rw [← s.rmpaNextSum_add]
    refine ⟨_, run_succ (step_rmpa h (by simp [hone]) hgo) 0, ?_⟩
    simpa [State.dotProduct] using hdone
  | succ n ih =>
    have h0 : s.reg 3 ≠ 0 := fun h0 => by simp [h0] at hn
    have h1 : s.reg 3 ≠ 1 := fun h1 => by simp [h1] at hn
    have hstep := step_rmpa h h0 hgo
    have halone := h.sample
    have hit := s.sample.rmpaIterated_iteration sz
    obtain ⟨-, -, -, -, hm, -, -⟩ := h
    have hwf := (KeepsMode.rmpaIterated s.sample sz).memory hm
    generalize s.sample.rmpaIterated sz = t at hstep hit hwf
    obtain ⟨hr1, hr2, hpc, hpsw, -, hrun⟩ := hit.going h1
    have hmem : SameMemory s t := hit.frame.memory
    have hcount : (t.reg 3).toNat = n + 1 := by
      rw [hit.count, State.reg_sample]
      bv_omega
    obtain ⟨u, hu, hdone⟩ := ih (hit.runsAlone halone hpc hwf) hcount
      (.inl (t.rmpaUnderWay_iff.2 (hrun.trans (congrArg some hpc.symm))))
    refine ⟨u, (run_succ hstep _).trans hu, ?_⟩
    rw [← s.rmpaNextSum_add, ← State.dotProduct_congr (s := s) hit.frame.control.product hmem]
    rw [hit.sum, hr1, hr2, State.rmpaNextSum_sample] at hdone
    exact hdone.of_next hpc hpsw hmem

/-- Settles O55, by induction on the count. -/
theorem rmpaComputesTheDotProduct : Obligations.RmpaComputesTheDotProduct := by
  intro s sz n sum halone hn hpos hgo hsum
  obtain ⟨m, rfl⟩ := Nat.exists_eq_succ_of_ne_zero hpos.ne'
  rw [hn, ← s.rmpaUnderWay_iff, ← s.rmpaAdmits_iff] at hgo
  obtain ⟨t, ht, hdone⟩ := rmpa_run m halone hn.symm hgo
  rw [hsum]
  exact ⟨t, ht, hdone.sum, hdone.high, hdone.count, hdone.pc, hdone.sign, hdone.overflow, hdone.carry, hdone.zero,
    hdone.memory⟩

end Sys2Proof.Machine
end

section
/-! The bits of a single-precision number as sign and magnitude, the value of a magnitude, and rounding of a fraction
to an integer (R320, R323). -/

namespace Sys2Proof.Machine

/-! ### The magnitude b30 to b0 -/

/-- b30 to b0 as a number: the exponent above the fraction. -/
def magnitude (v : Word) : Nat := (v.extractLsb' 0 31).toNat

theorem magnitude_eq_mod (v : Word) : magnitude v = v.toNat % 2 ^ 31 := by simp [magnitude]

theorem magnitude_lt (v : Word) : magnitude v < 2 ^ 31 := BitVec.isLt _

theorem fpExponent_eq (v : Word) : fpExponent v = magnitude v / 2 ^ 23 := by
  simp only [fpExponent, magnitude_eq_mod, BitVec.extractLsb'_toNat, Nat.shiftRight_eq_div_pow]
  omega

theorem fpFraction_eq (v : Word) : fpFraction v = magnitude v % 2 ^ 23 := by
  simp only [fpFraction, magnitude_eq_mod, BitVec.extractLsb'_toNat, Nat.shiftRight_eq_div_pow]
  omega

theorem isNormal_iff (v : Word) : IsNormal v ↔ 2 ^ 23 ≤ magnitude v ∧ magnitude v < 0x7F800000 := by
  rw [IsNormal, fpExponent_eq]
  omega

theorem toNat_signed {neg : Bool} {mag : Nat} (h : mag < 2 ^ 31) :
    (signed neg mag).toNat = neg.toNat * 2 ^ 31 + mag := by
  have hmag : mag % 2 ^ 31 = mag := Nat.mod_eq_of_lt h
  rw [signed, BitVec.toNat_append, BitVec.toNat_ofNat, BitVec.toNat_ofBool, hmag,
    ← Nat.shiftLeft_add_eq_or_of_lt h, Nat.shiftLeft_eq]

@[simp] theorem msb_signed (neg : Bool) (mag : Nat) : (signed neg mag).msb = neg := by
  rw [signed, BitVec.msb_append]
  cases neg <;> rfl

theorem magnitude_signed {neg : Bool} {mag : Nat} (h : mag < 2 ^ 31) : magnitude (signed neg mag) = mag := by
  rw [magnitude_eq_mod, toNat_signed h]
  omega

/-- Sign and magnitude are the whole number. -/
theorem eq_signed (v : Word) : v = signed v.msb (magnitude v) := BitVec.eq_of_toNat_eq <| by
  rw [toNat_signed (magnitude_lt v), BitVec.msb_eq_decide, magnitude_eq_mod]
  have hv := v.isLt
  by_cases h : 2 ^ (32 - 1) ≤ v.toNat
  · simp only [h, decide_true, Bool.toNat_true]
    omega
  · simp only [h, decide_false, Bool.toNat_false]
    omega

theorem getLsbD_zero_signed {neg : Bool} {mag : Nat} (h : mag < 2 ^ 31) :
    (signed neg mag).getLsbD 0 = decide (mag % 2 = 1) := by
  rw [BitVec.getLsbD, toNat_signed h, Nat.testBit_zero]
  congr 1
  rw [eq_iff_iff]
  omega

/-! ### Values of magnitudes -/

/-- The value of a magnitude with an exponent of 1 or more. -/
def magValue (m : Nat) : ℚ := (2 ^ 23 + (m % 2 ^ 23 : Nat)) * 2 ^ ((m / 2 ^ 23 : Nat) - 150 : Int)

/-- The sign of a number as a factor. -/
def signFactor (neg : Bool) : ℚ := if neg then -1 else 1

@[simp] theorem signFactor_true : signFactor true = -1 := rfl
@[simp] theorem signFactor_false : signFactor false = 1 := rfl

theorem signFactor_mul_self (neg : Bool) : signFactor neg * signFactor neg = 1 := by cases neg <;> norm_num

theorem abs_signFactor (neg : Bool) : |signFactor neg| = 1 := by cases neg <;> norm_num

theorem abs_signFactor_mul (neg : Bool) (a : ℚ) : |signFactor neg * a| = |a| := by
  rw [abs_mul, abs_signFactor, one_mul]

theorem signFactor_ne_zero (neg : Bool) : signFactor neg ≠ 0 := by cases neg <;> norm_num

theorem signFactor_xor (a b : Bool) : signFactor (a ^^ b) = signFactor a * signFactor b := by
  cases a <;> cases b <;> norm_num

theorem fpValue_eq (v : Word) : fpValue v = signFactor v.msb * magValue (magnitude v) := by
  rw [fpValue, significand, fpExponent_eq, fpFraction_eq, magValue, signFactor, mul_assoc]
  push_cast
  rfl

theorem fpValue_signed {neg : Bool} {mag : Nat} (h : mag < 2 ^ 31) :
    fpValue (signed neg mag) = signFactor neg * magValue mag := by
  rw [fpValue_eq, msb_signed, magnitude_signed h]

/-- The magnitudes of one exponent, and the least of the next, stand on a grid. -/
theorem magValue_grid (E : Nat) {k : Nat} (hk : k ≤ 2 ^ 23) :
    magValue (E * 2 ^ 23 + k) = (2 ^ 23 + k) * 2 ^ ((E : Int) - 150) := by
  rcases hk.lt_or_eq with hk | rfl
  · have hdiv : (E * 2 ^ 23 + k) / 2 ^ 23 = E := by omega
    have hmod : (E * 2 ^ 23 + k) % 2 ^ 23 = k := by omega
    rw [magValue, hdiv, hmod]
  · have hdiv : (E * 2 ^ 23 + 2 ^ 23) / 2 ^ 23 = E + 1 := by omega
    have hmod : (E * 2 ^ 23 + 2 ^ 23) % 2 ^ 23 = 0 := by omega
    have hexp : ((E + 1 : Nat) : Int) - 150 = (E - 150) + 1 := by omega
    rw [magValue, hdiv, hmod, hexp, zpow_add₀ two_ne_zero]
    push_cast
    ring

theorem magValue_pos (m : Nat) : 0 < magValue m := by
  unfold magValue
  positivity

theorem magValue_strictMono : StrictMono magValue := by
  refine strictMono_nat_of_lt_succ fun m => ?_
  obtain ⟨E, k, hk, rfl⟩ : ∃ E k : Nat, k < 2 ^ 23 ∧ m = E * 2 ^ 23 + k :=
    ⟨m / 2 ^ 23, m % 2 ^ 23, Nat.mod_lt _ (by decide), (Nat.div_add_mod' m _).symm⟩
  rw [Nat.add_assoc, magValue_grid E hk.le, magValue_grid E (Nat.succ_le_of_lt hk)]
  push_cast
  gcongr
  exact lt_add_one _

/-! ### Rounding to an integer -/

/-- The mode rounds a number of this sign away from 0. -/
def roundsAway (rm : BitVec 2) (neg : Bool) : Bool := (rm == 2 && !neg) || (rm == 3 && neg)

/-- q is the magnitude to which the magnitude y of a number of this sign rounds in the mode (R41, R323). -/
structure RoundsMagnitude (rm : BitVec 2) (neg : Bool) (y : ℚ) (q : Nat) : Prop where
  nearest : rm = 0 → |(q : ℚ) - y| ≤ 1 / 2 ∧ (|(q : ℚ) - y| = 1 / 2 → q % 2 = 0)
  away : roundsAway rm neg = true → y ≤ q ∧ (q : ℚ) < y + 1
  toZero : rm ≠ 0 → roundsAway rm neg = false → (q : ℚ) ≤ y ∧ y < q + 1

theorem mode_cases (rm : BitVec 2) : rm = 0 ∨ rm = 1 ∨ rm = 2 ∨ rm = 3 := by
  revert rm
  decide

/-- The four modes of `roundsUp`: to nearest with ties to even, or by `roundsAway`. -/
theorem roundsUp_eq (rm : BitVec 2) (neg odd : Bool) (r d : Nat) :
    roundsUp rm neg odd r d =
      if rm = 0 then decide (d < 2 * r) || (decide (2 * r = d) && odd) else roundsAway rm neg && decide (r ≠ 0) := by
  obtain rfl | rfl | rfl | rfl := mode_cases rm <;> simp [roundsUp, roundsAway]

/-- What `roundsUp` decides, by the part t after the point. -/
def RoundsUp (rm : BitVec 2) (neg odd : Bool) (t : ℚ) : Prop :=
  if rm = 0 then 1 / 2 < t ∨ (t = 1 / 2 ∧ odd = true) else roundsAway rm neg = true ∧ t ≠ 0

theorem roundsUp_iff (rm : BitVec 2) (neg odd : Bool) (r : Nat) {d : Nat} (hd : 0 < d) :
    roundsUp rm neg odd r d = true ↔ RoundsUp rm neg odd ((r : ℚ) / d) := by
  have hd' : (0 : ℚ) < d := by exact_mod_cast hd
  have hhalf : 1 / 2 < (r : ℚ) / d ↔ d < 2 * r := by
    rw [div_lt_div_iff₀ two_pos hd', ← Nat.cast_lt (α := ℚ)]
    push_cast
    rw [one_mul, mul_comm]
  have htie : (r : ℚ) / d = 1 / 2 ↔ 2 * r = d := by
    rw [div_eq_div_iff hd'.ne' two_ne_zero, ← Nat.cast_inj (R := ℚ)]
    push_cast
    rw [one_mul, mul_comm]
  have hrest : (r : ℚ) / d ≠ 0 ↔ r ≠ 0 := by rw [div_ne_zero_iff, and_iff_left hd'.ne', Nat.cast_ne_zero]
  rw [roundsUp_eq, RoundsUp, hhalf, htie, hrest]
  split <;> simp

/-- A fraction is its quotient and the rest of its division. -/
theorem fraction_eq (n : Nat) {d : Nat} (hd : 0 < d) : (n : ℚ) / d = (n / d : Nat) + ((n % d : Nat) : ℚ) / d := by
  have hd' : (d : ℚ) ≠ 0 := by exact_mod_cast hd.ne'
  have h : ((d * (n / d) + n % d : Nat) : ℚ) = n := by rw [Nat.div_add_mod]
  push_cast at h
  field_simp
  linarith

section Rounding

variable {rm : BitVec 2} {neg : Bool} {k : Nat} {t : ℚ}

theorem RoundsMagnitude.of_up (h0 : 0 ≤ t) (h1 : t < 1) (h : RoundsUp rm neg (k % 2 == 1) t) :
    RoundsMagnitude rm neg (k + t) (k + 1 : Nat) where
  nearest hrm := by
    rw [RoundsUp, if_pos hrm, beq_iff_eq] at h
    have habs : |((k + 1 : Nat) : ℚ) - (k + t)| = 1 - t := by
      rw [abs_of_nonneg (by push_cast; linarith)]
      push_cast
      ring
    rw [habs]
    refine ⟨by rcases h with h | ⟨h, -⟩ <;> linarith, fun htie => ?_⟩
    obtain h | ⟨-, h⟩ := h
    · linarith
    · omega
  away _ := by
    have ht : t ≠ 0 := by
      rintro rfl
      unfold RoundsUp at h
      split at h
      · rcases h with h | ⟨h, -⟩ <;> norm_num at h
      · exact h.2 rfl
    have hpos := lt_of_le_of_ne h0 ht.symm
    push_cast
    constructor <;> linarith
  toZero hrm haway := by
    rw [RoundsUp, if_neg hrm, haway] at h
    exact absurd h.1 (by decide)

theorem RoundsMagnitude.of_not_up (h0 : 0 ≤ t) (h1 : t < 1) (h : ¬RoundsUp rm neg (k % 2 == 1) t) :
    RoundsMagnitude rm neg (k + t) k where
  nearest hrm := by
    rw [RoundsUp, if_pos hrm, beq_iff_eq, not_or, not_lt, not_and] at h
    obtain ⟨hle, htie⟩ := h
    rw [sub_add_cancel_left, abs_neg, abs_of_nonneg h0]
    exact ⟨hle, fun ht => by have := htie ht; omega⟩
  away haway := by
    have hrm : rm ≠ 0 := by
      rintro rfl
      simp [roundsAway] at haway
    rw [RoundsUp, if_neg hrm, not_and, not_not] at h
    rw [h haway]
    constructor <;> linarith
  toZero _ _ := by constructor <;> linarith

end Rounding

theorem roundQuotient_rounds (rm : BitVec 2) (neg : Bool) (n : Nat) {d : Nat} (hd : 0 < d) :
    RoundsMagnitude rm neg ((n : ℚ) / d) (roundQuotient rm neg n d).1 := by
  have hd' : (0 : ℚ) < d := by exact_mod_cast hd
  have h0 : 0 ≤ ((n % d : Nat) : ℚ) / d := by positivity
  have h1 : ((n % d : Nat) : ℚ) / d < 1 := (div_lt_one hd').2 (by exact_mod_cast Nat.mod_lt n hd)
  rw [fraction_eq n hd]
  unfold roundQuotient
  dsimp only
  split
  · exact .of_up h0 h1 ((roundsUp_iff _ _ _ _ hd).1 ‹_›)
  · exact .of_not_up h0 h1 (mt (roundsUp_iff _ _ _ _ hd).2 ‹_›)

section Bounds

variable {rm : BitVec 2} {neg : Bool} {y : ℚ} {q k : Nat}

/-- A number rounds by less than 1. -/
theorem RoundsMagnitude.abs_sub_lt_one (h : RoundsMagnitude rm neg y q) : |(q : ℚ) - y| < 1 := by
  obtain ⟨hnearest, haway, hzero⟩ := h
  by_cases hrm : rm = 0
  · obtain ⟨hle, -⟩ := hnearest hrm
    linarith
  · rw [abs_lt]
    cases hdir : roundsAway rm neg with
    | true =>
      obtain ⟨h1, h2⟩ := haway hdir
      constructor <;> linarith
    | false =>
      obtain ⟨h1, h2⟩ := hzero hrm hdir
      constructor <;> linarith

theorem RoundsMagnitude.le_of_le (h : RoundsMagnitude rm neg y q) (hk : (k : ℚ) ≤ y) : k ≤ q := by
  obtain ⟨h1, -⟩ := abs_lt.1 h.abs_sub_lt_one
  have hlt : (k : ℚ) < q + 1 := by linarith
  norm_cast at hlt
  omega

theorem RoundsMagnitude.ge_of_ge (h : RoundsMagnitude rm neg y q) (hk : y ≤ k) : q ≤ k := by
  obtain ⟨-, h2⟩ := abs_lt.1 h.abs_sub_lt_one
  have hlt : (q : ℚ) < k + 1 := by linarith
  norm_cast at hlt
  omega

end Bounds

/-- The quotient is inexact where it differs from the fraction. -/
theorem roundQuotient_inexact (rm : BitVec 2) (neg : Bool) (n : Nat) {d : Nat} (hd : 0 < d) :
    (roundQuotient rm neg n d).2 = decide (((roundQuotient rm neg n d).1 : ℚ) ≠ n / d) := by
  have hd' : (d : ℚ) ≠ 0 := by exact_mod_cast hd.ne'
  have hrest : n % d = 0 ↔ ((roundQuotient rm neg n d).1 : ℚ) = n / d := by
    constructor
    · intro h
      have hround := roundQuotient_rounds rm neg n hd
      have hint : (n : ℚ) / d = (n / d : Nat) := by simp [fraction_eq n hd, h]
      rw [hint] at hround ⊢
      rw [(hround.ge_of_ge le_rfl).antisymm (hround.le_of_le le_rfl)]
    · intro h
      rw [eq_div_iff hd'] at h
      norm_cast at h
      rw [← h, Nat.mul_mod_left]
  rw [Bool.eq_iff_iff, decide_eq_true_iff, ne_eq, ← hrest]
  exact bne_iff_ne

end Sys2Proof.Machine
end

section
/-! Normalized numbers between powers of two: where an exact value lies, and that in units of its last place no number
lies between neighbouring integers (R320, R323). -/

namespace Sys2Proof.Machine

/-! ### Scaling by powers of two -/

theorem two_pow_toNat_div (e : Int) : (2 : ℚ) ^ e.toNat / 2 ^ (-e).toNat = 2 ^ e := by
  obtain ⟨k, rfl | rfl⟩ := e.eq_nat_or_neg <;> simp

theorem scaleFraction_value (num den : Nat) (e : Int) :
    ((scaleFraction num den e).1 : ℚ) / (scaleFraction num den e).2 = num / den * 2 ^ e := by
  rw [← two_pow_toNat_div e, scaleFraction]
  push_cast
  rw [mul_div_mul_comm]

theorem scaleFraction_den_pos (num : Nat) {den : Nat} (h : 0 < den) (e : Int) : 0 < (scaleFraction num den e).2 := by
  unfold scaleFraction
  positivity

/-- A positive integer lies between the powers of two that `log2` says. -/
theorem log2_bounds {n : Nat} (h : 0 < n) : (2 : ℚ) ^ (n.log2 : Int) ≤ n ∧ (n : ℚ) < 2 ^ ((n.log2 : Int) + 1) := by
  refine ⟨?_, ?_⟩
  · rw [zpow_natCast]
    exact_mod_cast Nat.log2_self_le h.ne'
  · have hlt : (n : ℚ) < 2 ^ (n.log2 + 1) := by exact_mod_cast Nat.lt_log2_self
    exact_mod_cast hlt

theorem floorLog_bounds {num den : Nat} (hn : 0 < num) (hd : 0 < den) :
    (2 : ℚ) ^ floorLog num den ≤ num / den ∧ (num : ℚ) / den < 2 ^ (floorLog num den + 1) := by
  have hd' : (0 : ℚ) < den := by exact_mod_cast hd
  obtain ⟨hn1, hn2⟩ := log2_bounds hn
  obtain ⟨hd1, hd2⟩ := log2_bounds hd
  have htest (l : Int) : den * 2 ^ l.toNat ≤ num * 2 ^ (-l).toNat ↔ (2 : ℚ) ^ l ≤ num / den := by
    rw [← two_pow_toNat_div, div_le_div_iff₀ (by positivity) hd', ← Nat.cast_le (α := ℚ)]
    push_cast
    rw [mul_comm (den : ℚ)]
  unfold floorLog
  dsimp only
  set l : Int := (num.log2 : Int) - den.log2
  have hlow : (2 : ℚ) ^ (l - 1) ≤ num / den := by
    rw [le_div_iff₀ hd']
    calc (2 : ℚ) ^ (l - 1) * den ≤ 2 ^ (l - 1) * 2 ^ ((den.log2 : Int) + 1) := by gcongr
      _ = 2 ^ (num.log2 : Int) := by rw [← zpow_add₀ two_ne_zero]; congr 1; omega
      _ ≤ num := hn1
  have hhigh : (num : ℚ) / den < 2 ^ (l + 1) := by
    rw [div_lt_iff₀ hd']
    calc (num : ℚ) < 2 ^ ((num.log2 : Int) + 1) := hn2
      _ = 2 ^ (l + 1) * 2 ^ (den.log2 : Int) := by rw [← zpow_add₀ two_ne_zero]; congr 1; omega
      _ ≤ 2 ^ (l + 1) * den := by gcongr
  split
  · exact ⟨(htest l).1 ‹_›, hhigh⟩
  · rw [sub_add_cancel]
    exact ⟨hlow, not_le.1 (mt (htest l).2 ‹_›)⟩

/-! ### The normalized numbers of one binade -/

theorem magValue_ulps (E : Nat) {q : Nat} (h1 : 2 ^ 23 ≤ q) (h2 : q ≤ 2 ^ 24) :
    magValue (E * 2 ^ 23 + q) = q * 2 ^ ((E : Int) - 149) := by
  obtain ⟨k, rfl⟩ := Nat.exists_eq_add_of_le h1
  have hcode : E * 2 ^ 23 + (2 ^ 23 + k) = (E + 1) * 2 ^ 23 + k := by ring
  have hexp : ((E + 1 : Nat) : Int) - 150 = E - 149 := by omega
  rw [hcode, magValue_grid _ (by omega), hexp]
  push_cast
  rfl

/-- V does not lie strictly between neighbouring integers of 24 bits. -/
def Gridded (V : ℚ) : Prop := ∀ k : Nat, 2 ^ 23 ≤ k → k < 2 ^ 24 → V ≤ k ∨ (k : ℚ) + 1 ≤ V

/-- In units of the last place of any binade every magnitude is gridded: between neighbours there is no other. -/
theorem magValue_gridded (E m : Nat) : ∃ V, Gridded V ∧ magValue m = V * 2 ^ ((E : Int) - 149) := by
  have hu : (0 : ℚ) < 2 ^ ((E : Int) - 149) := by positivity
  refine ⟨magValue m / 2 ^ ((E : Int) - 149), fun k h1 h2 => ?_, (div_mul_cancel₀ _ hu.ne').symm⟩
  rw [div_le_iff₀ hu, le_div_iff₀ hu, ← magValue_ulps E h1 h2.le, ← Nat.cast_succ,
    ← magValue_ulps E (h1.trans k.le_succ) h2, magValue_strictMono.le_iff_le, magValue_strictMono.le_iff_le]
  omega

theorem abs_fpValue (w : Word) : |fpValue w| = magValue (magnitude w) := by
  rw [fpValue_eq, abs_mul, abs_signFactor, one_mul, abs_of_pos (magValue_pos _)]

/-- Seen with either sign every number is gridded: one of the other sign is below 0. -/
theorem fpValue_gridded (neg : Bool) (E : Nat) (w : Word) :
    ∃ V, Gridded V ∧ fpValue w = signFactor neg * (V * 2 ^ ((E : Int) - 149)) := by
  obtain ⟨V, hV, hm⟩ := magValue_gridded E (magnitude w)
  have hpos : 0 < V := pos_of_mul_pos_left (hm ▸ magValue_pos _) (by positivity)
  by_cases h : w.msb = neg
  · exact ⟨V, hV, by rw [fpValue_eq, h, hm]⟩
  · refine ⟨-V, fun k _ _ => .inl (by have : (0 : ℚ) ≤ k := k.cast_nonneg; linarith), ?_⟩
    rw [fpValue_eq, hm, Bool.eq_not.2 h]
    cases neg <;> simp

/-! ### The nearest of the gridded numbers -/

section Optimal

variable {rm : BitVec 2} {neg : Bool} {y V : ℚ} {q : Nat}

/-- No gridded number lies between y and an integer less than 1 away from it. -/
theorem Gridded.apart (hV : Gridded V) (h1 : 2 ^ 23 ≤ y) (h2 : y < 2 ^ 24) :
    ((q : ℚ) ≤ y → y < q + 1 → V ≤ q ∨ (q : ℚ) + 1 ≤ V) ∧
      (y < q → (q : ℚ) < y + 1 → V ≤ q - 1 ∨ (q : ℚ) ≤ V) := by
  constructor
  · intro hq hy
    have hlow : (2 ^ 23 : ℚ) < q + 1 := h1.trans_lt hy
    have hhigh : (q : ℚ) < 2 ^ 24 := hq.trans_lt h2
    norm_cast at hlow hhigh
    exact hV q (by omega) hhigh
  · intro hq hy
    have hlow : (2 ^ 23 : ℚ) < q := h1.trans_lt hq
    have hhigh : (q : ℚ) < 2 ^ 24 + 1 := hy.trans (by linarith)
    norm_cast at hlow hhigh
    obtain ⟨k, rfl⟩ := Nat.exists_eq_add_one_of_ne_zero (n := q) (by omega)
    simpa using hV k (by omega) (by omega)

theorem RoundsMagnitude.nearest_le (h : RoundsMagnitude rm neg y q) (hrm : rm = 0) (hV : Gridded V)
    (h1 : 2 ^ 23 ≤ y) (h2 : y < 2 ^ 24) :
    |(q : ℚ) - y| ≤ |V - y| ∧ (V ≠ q → |(q : ℚ) - y| = |V - y| → q % 2 = 0) := by
  obtain ⟨hhalf, htie⟩ := h.nearest hrm
  obtain ⟨hbelow, habove⟩ := hV.apart (q := q) h1 h2
  obtain ⟨hl, hu⟩ := abs_le.1 hhalf
  have hfar : V = q ∨ (|(q : ℚ) - y| < |V - y|) ∨ 1 / 2 ≤ |V - y| := by
    rcases le_or_gt (q : ℚ) y with hq | hq
    · rcases hbelow hq (by linarith) with hv | hv
      · refine hv.eq_or_lt.imp id fun hv => .inl ?_
        rw [abs_of_nonpos (by linarith), abs_of_nonpos (by linarith)]
        linarith
      · exact .inr (.inr (le_abs.2 (.inl (by linarith))))
    · rcases habove hq (by linarith) with hv | hv
      · exact .inr (.inr (le_abs.2 (.inr (by linarith))))
      · refine hv.eq_or_lt.imp Eq.symm fun hv => .inl ?_
        rw [abs_of_pos (by linarith), abs_of_pos (by linarith)]
        linarith
  obtain rfl | hlt | hge := hfar
  · exact ⟨le_rfl, fun hne => absurd rfl hne⟩
  · exact ⟨hlt.le, fun _ heq => absurd heq hlt.ne⟩
  · exact ⟨hhalf.trans hge, fun _ heq => htie (hhalf.antisymm (heq ▸ hge))⟩

theorem RoundsMagnitude.le_of_toZero (h : RoundsMagnitude rm neg y q) (hrm : rm ≠ 0) (hdir : roundsAway rm neg = false)
    (hV : Gridded V) (h1 : 2 ^ 23 ≤ y) (h2 : y < 2 ^ 24) (hy : V ≤ y) : V ≤ q := by
  obtain ⟨hq, hlt⟩ := h.toZero hrm hdir
  exact ((hV.apart h1 h2).1 hq hlt).resolve_right (by linarith)

theorem RoundsMagnitude.ge_of_away (h : RoundsMagnitude rm neg y q) (hdir : roundsAway rm neg = true)
    (hV : Gridded V) (h1 : 2 ^ 23 ≤ y) (h2 : y < 2 ^ 24) (hy : y ≤ V) : (q : ℚ) ≤ V := by
  obtain ⟨hq, hlt⟩ := h.away hdir
  rcases hq.eq_or_lt with rfl | hq
  · exact hy
  · exact ((hV.apart h1 h2).2 hq hlt).resolve_left (by linarith)

end Optimal

end Sys2Proof.Machine
end

section
/-! The number to which an exact value rounds, and where it overflows (R323, R324, R328). -/

namespace Sys2Proof.Machine

/-! ### The rounded number -/

theorem abs_signFactor_sub (neg : Bool) (a b : ℚ) {u : ℚ} (hu : 0 < u) :
    |signFactor neg * (a * u) - signFactor neg * (b * u)| = |a - b| * u := by
  rw [← mul_sub, abs_signFactor_mul, ← sub_mul, abs_mul, abs_of_pos hu]

theorem fpValue_pos_iff (v : Word) : 0 < fpValue v ↔ v.msb = false := by
  have hpos := magValue_pos (magnitude v)
  rw [fpValue_eq]
  cases v.msb
  · simpa using hpos
  · simpa using hpos.le

/-- A value has one sign and one magnitude, so two words of one value are the same. -/
theorem fpValue_injective : Function.Injective fpValue := by
  intro v w h
  have hmag : magnitude v = magnitude w :=
    magValue_strictMono.injective (by rw [← abs_fpValue, ← abs_fpValue, h])
  have hsign : v.msb = w.msb := by
    rw [← Bool.not_inj_iff, Bool.eq_iff_iff, Bool.not_eq_true', Bool.not_eq_true', ← fpValue_pos_iff,
      ← fpValue_pos_iff, h]
  rw [eq_signed v, eq_signed w, hsign, hmag]

/-- y units in the last place of a binade, so a number of 24 bits before the point, round to q units. -/
structure RoundingOf (rm : BitVec 2) (neg : Bool) (y : ℚ) (q : Nat) : Prop where
  rounds : RoundsMagnitude rm neg y q
  low : 2 ^ 23 ≤ y
  high : y < 2 ^ 24

section Rounded

variable {rm : BitVec 2} {neg : Bool} {y : ℚ} {q : Nat}

namespace RoundingOf

theorem le_q (h : RoundingOf rm neg y q) : 2 ^ 23 ≤ q := h.rounds.le_of_le (by exact_mod_cast h.low)

theorem q_le (h : RoundingOf rm neg y q) : q ≤ 2 ^ 24 := h.rounds.ge_of_ge (by exact_mod_cast h.high.le)

/-- Where the mode rounds upward on the line: away from 0 for this sign or toward 0 for the other. -/
theorem le_of_upward (h : RoundingOf rm neg y q) (hrm : rm ≠ 0) (hdir : roundsAway rm neg = !neg) {u : ℚ}
    (hu : 0 < u) :
    signFactor neg * (y * u) ≤ signFactor neg * (q * u) ∧
      ∀ V, Gridded V → signFactor neg * (y * u) ≤ signFactor neg * (V * u) →
        signFactor neg * (q * u) ≤ signFactor neg * (V * u) := by
  cases neg with
  | false =>
    simp only [signFactor_false, one_mul, mul_le_mul_iff_left₀ hu]
    exact ⟨(h.rounds.away hdir).1, fun V hV => h.rounds.ge_of_away hdir hV h.low h.high⟩
  | true =>
    simp only [signFactor_true, neg_one_mul, neg_le_neg_iff, mul_le_mul_iff_left₀ hu]
    exact ⟨(h.rounds.toZero hrm hdir).1, fun V hV => h.rounds.le_of_toZero hrm hdir hV h.low h.high⟩

theorem ge_of_downward (h : RoundingOf rm neg y q) (hrm : rm ≠ 0) (hdir : roundsAway rm neg = neg) {u : ℚ}
    (hu : 0 < u) :
    signFactor neg * (q * u) ≤ signFactor neg * (y * u) ∧
      ∀ V, Gridded V → signFactor neg * (V * u) ≤ signFactor neg * (y * u) →
        signFactor neg * (V * u) ≤ signFactor neg * (q * u) := by
  cases neg with
  | false =>
    simp only [signFactor_false, one_mul, mul_le_mul_iff_left₀ hu]
    exact ⟨(h.rounds.toZero hrm hdir).1, fun V hV => h.rounds.le_of_toZero hrm hdir hV h.low h.high⟩
  | true =>
    simp only [signFactor_true, neg_one_mul, neg_le_neg_iff, mul_le_mul_iff_left₀ hu]
    exact ⟨(h.rounds.away hdir).1, fun V hV => h.rounds.ge_of_away hdir hV h.low h.high⟩

theorem fpValue_signed (h : RoundingOf rm neg y q) {E : Nat} (hmax : E * 2 ^ 23 + q < 0x7F800000) :
    fpValue (signed neg (E * 2 ^ 23 + q)) = signFactor neg * (q * 2 ^ ((E : Int) - 149)) := by
  rw [Machine.fpValue_signed (by omega), magValue_ulps E h.le_q h.q_le]

/-- The magnitude pattern of q ulps, where it is finite, is the number to which y ulps round. -/
theorem roundsTo (h : RoundingOf rm neg y q) {E : Nat} (hmax : E * 2 ^ 23 + q < 0x7F800000) :
    RoundsTo rm (signFactor neg * (y * 2 ^ ((E : Int) - 149))) (signed neg (E * 2 ^ 23 + q)) := by
  have hu : (0 : ℚ) < 2 ^ ((E : Int) - 149) := by positivity
  have hy : 0 < y := lt_of_lt_of_le (by norm_num) h.low
  have hq1 := h.le_q
  have hq0 : (0 : ℚ) < q := by exact_mod_cast Nat.pos_of_ne_zero (by omega)
  have hcode : E * 2 ^ 23 + q < 2 ^ 31 := by omega
  have hgrid := fpValue_gridded neg E
  have hval := h.fpValue_signed hmax
  refine ⟨?_, ?_, ?_, ?_, ?_⟩
  · rw [isNormal_iff, magnitude_signed hcode]
    omega
  · intro hrm w _
    obtain ⟨V, hV, hw⟩ := hgrid w
    obtain ⟨hle, htie⟩ := h.rounds.nearest_le hrm hV h.low h.high
    rw [hval, hw, abs_signFactor_sub _ _ _ hu, abs_signFactor_sub _ _ _ hu, mul_left_inj' hu.ne']
    refine ⟨by gcongr, fun hne heq => ?_⟩
    have hVq : V ≠ q := fun hVq => hne (fpValue_injective (by rw [hw, hval, hVq]))
    rw [getLsbD_zero_signed hcode, decide_eq_false_iff_not]
    have := htie hVq heq
    omega
  · rintro rfl
    have hdir : roundsAway 1 neg = false := by cases neg <;> rfl
    obtain ⟨hle, -⟩ := h.rounds.toZero (by decide) hdir
    rw [hval]
    refine ⟨?_, ?_, fun w _ => ?_⟩
    · rw [mul_mul_mul_comm, signFactor_mul_self, one_mul]
      positivity
    · rw [abs_signFactor_mul, abs_signFactor_mul, abs_of_pos (by positivity), abs_of_pos (by positivity)]
      gcongr
    · obtain ⟨V, hV, hm⟩ := magValue_gridded E (magnitude w)
      rw [abs_fpValue, hm, abs_signFactor_mul, abs_signFactor_mul, abs_of_pos (by positivity),
        abs_of_pos (by positivity), mul_le_mul_iff_left₀ hu, mul_le_mul_iff_left₀ hu]
      exact h.rounds.le_of_toZero (by decide) hdir hV h.low h.high
  · rintro rfl
    obtain ⟨hle, hbest⟩ := h.le_of_upward (by decide) (by cases neg <;> rfl) hu
    rw [hval]
    refine ⟨hle, fun w _ hw => ?_⟩
    obtain ⟨V, hV, hwV⟩ := hgrid w
    rw [hwV] at hw ⊢
    exact hbest V hV hw
  · rintro rfl
    obtain ⟨hle, hbest⟩ := h.ge_of_downward (by decide) (by cases neg <;> rfl) hu
    rw [hval]
    refine ⟨hle, fun w _ hw => ?_⟩
    obtain ⟨V, hV, hwV⟩ := hgrid w
    rw [hwV] at hw ⊢
    exact hbest V hV hw

/-! ### Overflow -/

/-- The overflow bound on a magnitude of this sign (R324, R328). -/
def OverflowsMagnitude (rm : BitVec 2) (neg : Bool) (y : ℚ) : Prop :=
  if rm = 0 then 2 ^ 128 - 2 ^ 103 ≤ y else if roundsAway rm neg then 2 ^ 128 - 2 ^ 104 < y else 2 ^ 128 ≤ y

theorem OverflowsMagnitude.gt (h : OverflowsMagnitude rm neg y) : 2 ^ 127 < y := by
  unfold OverflowsMagnitude at h
  split at h
  · linarith
  · split at h <;> linarith

theorem OverflowsMagnitude.of_ge (h : 2 ^ 128 ≤ y) : OverflowsMagnitude rm neg y := by
  unfold OverflowsMagnitude
  split
  · linarith
  · split <;> linarith

theorem overflows_signFactor (rm : BitVec 2) (neg : Bool) (hy : 0 < y) :
    Overflows rm (signFactor neg * y) ↔ OverflowsMagnitude rm neg y := by
  have hneg : ¬ (2 ^ 128 ≤ -y) := by linarith
  have hneg' : ¬ (2 ^ 128 - 2 ^ 104 < -y) := by linarith
  have hpos : ¬ (y ≤ -2 ^ 128) := by linarith
  have hpos' : ¬ (y < 2 ^ 104 - 2 ^ 128) := by linarith
  obtain rfl | rfl | rfl | rfl := mode_cases rm <;> cases neg <;>
    simp [Overflows, OverflowsMagnitude, roundsAway, abs_of_pos hy, hneg, hneg', hpos, hpos',
      sub_lt_iff_lt_add]

/-- In the last binade the mode rounds to the power of two above from its overflow bound on. -/
theorem overflowsMagnitude_iff_last (h : RoundingOf rm neg y q) :
    OverflowsMagnitude rm neg (y * 2 ^ 104) ↔ 2 ^ 24 ≤ q := by
  have hscale (a : ℚ) : a * 2 ^ 104 ≤ y * 2 ^ 104 ↔ a ≤ y := mul_le_mul_iff_left₀ (by positivity)
  have hscale' (a : ℚ) : a * 2 ^ 104 < y * 2 ^ 104 ↔ a < y := mul_lt_mul_iff_left₀ (by positivity)
  have hnear : (2 ^ 128 - 2 ^ 103 : ℚ) = (2 ^ 24 - 1 / 2) * 2 ^ 104 := by norm_num
  have haway : (2 ^ 128 - 2 ^ 104 : ℚ) = (2 ^ 24 - 1) * 2 ^ 104 := by norm_num
  have hzero : (2 ^ 128 : ℚ) = 2 ^ 24 * 2 ^ 104 := by norm_num
  have hcast : 2 ^ 24 ≤ q ↔ (2 ^ 24 : ℚ) ≤ q := by exact_mod_cast Iff.rfl
  have hbelow : ¬ 2 ^ 24 ≤ q → (q : ℚ) ≤ 2 ^ 24 - 1 := fun hq => by
    have hle : (q : ℚ) ≤ (2 ^ 24 - 1 : Nat) := by exact_mod_cast (by omega : q ≤ 2 ^ 24 - 1)
    norm_num at hle ⊢
    exact hle
  unfold OverflowsMagnitude
  split
  next hrm =>
    obtain ⟨hhalf, htie⟩ := h.rounds.nearest hrm
    obtain ⟨hl, hu⟩ := abs_le.1 hhalf
    rw [hnear, hscale]
    refine ⟨fun hy => ?_, fun hq => ?_⟩
    · by_contra hq
      have hle := hbelow hq
      have hodd := htie (by rw [abs_of_nonpos] <;> linarith)
      have hge : (2 ^ 24 - 1 : ℚ) ≤ q := by linarith
      norm_num at hge
      omega
    · rw [hcast] at hq
      linarith
  next hrm =>
    split
    next hdir =>
      obtain ⟨hle, hlt⟩ := h.rounds.away hdir
      rw [haway, hscale']
      refine ⟨fun hy => ?_, fun hq => ?_⟩
      · by_contra hq
        linarith [hbelow hq]
      · rw [hcast] at hq
        linarith
    next hdir =>
      obtain ⟨hle, hlt⟩ := h.rounds.toZero hrm (by simpa using hdir)
      rw [hzero, hscale, hcast]
      exact ⟨fun hy => absurd h.high (not_lt.2 hy), fun hq => hq.trans hle⟩

/-- The three places of a binade: below the last, the last, and beyond the numbers. -/
theorem overflows_iff (h : RoundingOf rm neg y q) (E : Nat) :
    Overflows rm (signFactor neg * (y * 2 ^ ((E : Int) - 149))) ↔ 0x7F800000 ≤ E * 2 ^ 23 + q := by
  have hy : 0 < y := lt_of_lt_of_le (by norm_num) h.low
  have hq1 := h.le_q
  have hq2 := h.q_le
  rw [overflows_signFactor _ _ (by positivity)]
  rcases lt_trichotomy E 253 with hE | rfl | hE
  · have hexp : (2 : ℚ) ^ ((E : Int) - 149) ≤ 2 ^ (103 : Int) := zpow_le_zpow_right₀ one_le_two (by omega)
    have hlt : y * 2 ^ ((E : Int) - 149) < 2 ^ 24 * 2 ^ (103 : Int) :=
      mul_lt_mul h.high hexp (by positivity) (by positivity)
    have hno : ¬OverflowsMagnitude rm neg (y * 2 ^ ((E : Int) - 149)) := fun ho => by
      have hgt := ho.gt
      norm_num at hlt hgt
      linarith
    exact ⟨fun ho => absurd ho hno, fun hq => by omega⟩
  · have hexp : (2 : ℚ) ^ (((253 : Nat) : Int) - 149) = 2 ^ 104 := by norm_num
    rw [hexp, h.overflowsMagnitude_iff_last]
    omega
  · have hexp : (2 : ℚ) ^ (105 : Int) ≤ 2 ^ ((E : Int) - 149) := zpow_le_zpow_right₀ one_le_two (by omega)
    have hge : (2 : ℚ) ^ 23 * 2 ^ (105 : Int) ≤ y * 2 ^ ((E : Int) - 149) :=
      mul_le_mul h.low hexp (by positivity) hy.le
    refine ⟨fun _ => by omega, fun _ => .of_ge (le_trans (by norm_num) hge)⟩

end RoundingOf
end Rounded

end Sys2Proof.Machine
end

section
/-! Arithmetic of normalized numbers and the conversion from integers: the exact value rounded once (R323, R324, R335 to
R339, R343). -/

namespace Sys2Proof.Machine

/-! ### The rounded result -/

theorem decide_signFactor_mul_neg (neg : Bool) {y : ℚ} (hy : 0 < y) : decide (signFactor neg * y < 0) = neg := by
  cases neg
  · simpa using hy.le
  · simpa using hy

/-- The result and events of a number of `q` ulps, in the binade E above the least. -/
def fpRounded (f : Fpsw) (neg : Bool) (E : Nat) (q : Nat × Bool) : Word × Events :=
  if 0x7F800000 ≤ E * 2 ^ 23 + q.1 then (overflowResult f.rm neg, { o := true, x := !f.eo })
  else (signed neg (E * 2 ^ 23 + q.1), { x := q.2 })

theorem fpResult_eq (f : Fpsw) (neg : Bool) (num den : Nat) (e : Int) :
    fpResult f neg num den e =
      if floorLog num den + e < -126 then (signedZero neg, { u := true, e := !f.dn })
      else fpRounded f neg (floorLog num den + e + 126).toNat
        (roundQuotient f.rm neg (scaleFraction num den (23 - floorLog num den)).1
          (scaleFraction num den (23 - floorLog num den)).2) := rfl

theorem fpRounded_isFpResult {f : Fpsw} {neg : Bool} {y : ℚ} {q : Nat × Bool} (h : RoundingOf f.rm neg y q.1)
    (hexact : q.2 = decide ((q.1 : ℚ) ≠ y)) (E : Nat) :
    IsFpResult f (signFactor neg * (y * 2 ^ ((E : Int) - 149))) (fpRounded f neg E q) := by
  have hu : (0 : ℚ) < 2 ^ ((E : Int) - 149) := by positivity
  have hy : 0 < y := lt_of_lt_of_le (by norm_num) h.low
  have hpos : 0 < y * 2 ^ ((E : Int) - 149) := mul_pos hy hu
  have hlarge : (2 : ℚ) ^ (-126 : Int) ≤ y * 2 ^ ((E : Int) - 149) := by
    calc (2 : ℚ) ^ (-126 : Int) = 2 ^ 23 * 2 ^ (-149 : Int) := by norm_num
      _ ≤ y * 2 ^ ((E : Int) - 149) :=
        mul_le_mul h.low (zpow_le_zpow_right₀ one_le_two (by omega)) (by positivity) hy.le
  rw [IsFpResult, abs_signFactor_mul, abs_of_pos hpos, decide_signFactor_mul_neg neg hpos, h.overflows_iff E, fpRounded]
  refine ⟨fun hsmall => absurd hlarge hsmall.not_ge, fun _ hover => if_pos hover, fun _ hover => ?_⟩
  have hmax := not_le.1 hover
  rw [if_neg hover]
  refine ⟨h.roundsTo hmax, ?_⟩
  have hne :
      fpValue (signed neg (E * 2 ^ 23 + q.1)) ≠ signFactor neg * (y * 2 ^ ((E : Int) - 149)) ↔ (q.1 : ℚ) ≠ y := by
    rw [h.fpValue_signed hmax, ne_eq, mul_right_inj' (signFactor_ne_zero neg), mul_left_inj' hu.ne']
  rw [hexact]
  exact congrArg (fun x => ({ x := x } : Events)) (decide_eq_decide.2 hne.symm)

/-- `fpResult` rounds the exact value once, with its events (R323, R324). -/
theorem fpResult_isFpResult (f : Fpsw) (neg : Bool) {num den : Nat} (e : Int) (hn : 0 < num) (hd : 0 < den) :
    IsFpResult f (signFactor neg * (num / den * 2 ^ e)) (fpResult f neg num den e) := by
  obtain ⟨hlow, hhigh⟩ := floorLog_bounds hn hd
  rw [fpResult_eq]
  generalize floorLog num den = l at *
  split
  next hunder =>
    have hpos : (0 : ℚ) < num / den * 2 ^ e := by positivity
    have hsmall : (num : ℚ) / den * 2 ^ e < 2 ^ (-126 : Int) := by
      calc (num : ℚ) / den * 2 ^ e < 2 ^ (l + 1) * 2 ^ e := by gcongr
        _ = 2 ^ (l + 1 + e) := (zpow_add₀ two_ne_zero _ _).symm
        _ ≤ 2 ^ (-126 : Int) := zpow_le_zpow_right₀ one_le_two (by omega)
    rw [IsFpResult, abs_signFactor_mul, abs_of_pos hpos, decide_signFactor_mul_neg neg hpos]
    exact ⟨fun _ => rfl, fun h => absurd h hsmall.not_ge, fun h => absurd h hsmall.not_ge⟩
  next hunder =>
    obtain ⟨E, hE⟩ := Int.eq_ofNat_of_zero_le (a := l + e + 126) (by omega)
    have hden := scaleFraction_den_pos num hd (23 - l)
    have hround := roundQuotient_rounds f.rm neg (scaleFraction num den (23 - l)).1 hden
    have hexact := roundQuotient_inexact f.rm neg (scaleFraction num den (23 - l)).1 hden
    rw [scaleFraction_value] at hround hexact
    have hlow' : (2 : ℚ) ^ 23 ≤ num / den * 2 ^ (23 - l) := by
      calc (2 : ℚ) ^ 23 = 2 ^ l * 2 ^ (23 - l) := by rw [← zpow_add₀ two_ne_zero, add_sub_cancel]; rfl
        _ ≤ num / den * 2 ^ (23 - l) := by gcongr
    have hhigh' : (num : ℚ) / den * 2 ^ (23 - l) < 2 ^ 24 := by
      calc (num : ℚ) / den * 2 ^ (23 - l) < 2 ^ (l + 1) * 2 ^ (23 - l) := by gcongr
        _ = 2 ^ (l + 1 + (23 - l)) := (zpow_add₀ two_ne_zero _ _).symm
        _ = 2 ^ 24 := by rw [show l + 1 + (23 - l) = 24 by omega]; rfl
    have hulps : (num : ℚ) / den * 2 ^ e = num / den * 2 ^ (23 - l) * 2 ^ ((E : Int) - 149) := by
      rw [mul_assoc, ← zpow_add₀ two_ne_zero]
      congr 2
      omega
    rw [hE, Int.toNat_natCast, hulps]
    exact fpRounded_isFpResult ⟨hround, hlow', hhigh'⟩ hexact E

/-! ### Classes of numbers -/

theorem isZero_iff (v : Word) : isZero v = true ↔ magnitude v = 0 := by
  simp only [isZero, fpExponent_eq, fpFraction_eq, Bool.and_eq_true, beq_iff_eq]
  omega

theorem isInf_iff (v : Word) : isInf v = true ↔ magnitude v = 0x7F800000 := by
  simp only [isInf, fpExponent_eq, fpFraction_eq, Bool.and_eq_true, beq_iff_eq]
  have := magnitude_lt v
  omega

theorem isDenormal_iff (v : Word) : isDenormal v = true ↔ magnitude v ≠ 0 ∧ magnitude v < 2 ^ 23 := by
  simp only [isDenormal, fpExponent_eq, fpFraction_eq, Bool.and_eq_true, beq_iff_eq, bne_iff_ne]
  omega

theorem isNaN_iff (v : Word) : isNaN v = true ↔ 0x7F800000 < magnitude v := by
  simp only [isNaN, fpExponent_eq, fpFraction_eq, Bool.and_eq_true, beq_iff_eq, bne_iff_ne]
  have := magnitude_lt v
  omega

/-- A NaN is signalling or quiet. -/
theorem isNaN_eq_false_iff (v : Word) : isNaN v = false ↔ isSNaN v = false ∧ isQNaN v = false := by
  unfold isSNaN isQNaN
  cases isNaN v <;> cases v.getLsbD 22 <;> decide

theorem IsNormal.isInf {v : Word} (h : IsNormal v) : isInf v = false := by
  rw [isNormal_iff] at h
  rw [Bool.eq_false_iff, ne_eq, isInf_iff]
  omega

theorem IsNormal.isZero {v : Word} (h : IsNormal v) : isZero v = false := by
  rw [isNormal_iff] at h
  rw [Bool.eq_false_iff, ne_eq, isZero_iff]
  omega

/-- A zero, a normalized number or an infinity: an operand that the case tables are about. -/
structure IsPlain (v : Word) : Prop where
  notNaN : isNaN v = false
  notDenormal : isDenormal v = false

theorem isPlain_iff (v : Word) : IsPlain v ↔ isZero v = true ∨ IsNormal v ∨ isInf v = true := by
  have hplain : IsPlain v ↔ isNaN v = false ∧ isDenormal v = false :=
    ⟨fun ⟨h1, h2⟩ => ⟨h1, h2⟩, fun ⟨h1, h2⟩ => ⟨h1, h2⟩⟩
  rw [hplain, Bool.eq_false_iff, Bool.eq_false_iff, ne_eq, ne_eq, isNaN_iff, isDenormal_iff, isZero_iff, isNormal_iff,
    isInf_iff]
  omega

theorem IsPlain.of_isZero {v : Word} (h : isZero v = true) : IsPlain v := (isPlain_iff v).2 (.inl h)

theorem IsPlain.of_isNormal {v : Word} (h : IsNormal v) : IsPlain v := (isPlain_iff v).2 (.inr (.inl h))

theorem IsPlain.of_isInf {v : Word} (h : isInf v = true) : IsPlain v := (isPlain_iff v).2 (.inr (.inr h))

theorem flushDenormal_of_not {v : Word} (h : isDenormal v = false) : flushDenormal v = v := by
  simp [flushDenormal, h]

theorem flushDenormal_of_isDenormal {v : Word} (h : isDenormal v = true) : flushDenormal v = signedZero v.msb :=
  if_pos h

theorem isZero_signedZero (neg : Bool) : isZero (signedZero neg) = true :=
  (isZero_iff _).2 (magnitude_signed (by decide))

theorem isInf_signedInf (neg : Bool) : isInf (signedInf neg) = true :=
  (isInf_iff _).2 (magnitude_signed (by decide))

/-- A number that is no NaN is plain once a denormalized one counts as zero (R321). -/
theorem IsPlain.flushDenormal {v : Word} (h : isNaN v = false) : IsPlain (flushDenormal v) := by
  cases hd : isDenormal v with
  | true => exact flushDenormal_of_isDenormal hd ▸ .of_isZero (isZero_signedZero _)
  | false => exact (flushDenormal_of_not hd).symm ▸ ⟨h, hd⟩

/-- Operands that are no NaN: unimplemented processing of a denormalized one, or the case table (R321, R322). -/
theorem fpArith_numbers {f : Fpsw} {d s : Word} (k : Word → Word → Word × Events) (hd : isNaN d = false)
    (hs : isNaN s = false) :
    fpArith f d s k =
      if (!f.dn && (isDenormal d || isDenormal s)) = true then (d, { e := true })
      else k (flushDenormal d) (flushDenormal s) := by
  obtain ⟨hsd, hqd⟩ := (isNaN_eq_false_iff d).1 hd
  obtain ⟨hss, hqs⟩ := (isNaN_eq_false_iff s).1 hs
  rw [fpArith, hsd, hqd, hss, hqs]
  rfl

/-- Plain operands go to the case table as they are. -/
theorem fpArith_plain {f : Fpsw} {d s : Word} (k : Word → Word → Word × Events) (hd : IsPlain d) (hs : IsPlain s) :
    fpArith f d s k = k d s := by
  rw [fpArith_numbers k hd.notNaN hs.notNaN, flushDenormal_of_not hd.notDenormal, flushDenormal_of_not hs.notDenormal,
    if_neg (by simp [hd.notDenormal, hs.notDenormal])]

theorem fpArith_normal {f : Fpsw} {d s : Word} (k : Word → Word → Word × Events) (hd : IsNormal d)
    (hs : IsNormal s) : fpArith f d s k = k d s :=
  fpArith_plain k (.of_isNormal hd) (.of_isNormal hs)

/-! ### The exact values -/

theorem significand_pos (v : Word) : 0 < significand v := by
  unfold significand
  positivity

/-- The value from the sign and the significand. -/
theorem fpValue_eq_signFactor (v : Word) :
    fpValue v = signFactor v.msb * (significand v * 2 ^ ((fpExponent v : Int) - 150)) := mul_assoc _ _ _

theorem fpValue_eq_signedSignificand (v : Word) :
    fpValue v = signedSignificand v * 2 ^ ((fpExponent v : Int) - 150) := by
  rw [fpValue, signedSignificand]
  split
  · push_cast
    ring
  · push_cast
    ring

theorem intCast_eq_signFactor (k : Int) : (k : ℚ) = signFactor (decide (k < 0)) * k.natAbs := by
  by_cases hk : k < 0
  · simp [hk, Nat.cast_natAbs, abs_of_neg hk]
  · simp [hk, Nat.cast_natAbs, abs_of_nonneg (not_lt.1 hk)]

/-- A significand scaled down to a smaller exponent. -/
theorem two_pow_sub_mul {m E : Nat} (h : m ≤ E) :
    (2 : ℚ) ^ (E - m) * 2 ^ ((m : Int) - 150) = 2 ^ ((E : Int) - 150) := by
  rw [← zpow_natCast, ← zpow_add₀ two_ne_zero]
  congr 1
  omega

theorem alignedSum_value (d s : Word) :
    fpValue d + fpValue s = alignedSum d s * 2 ^ (((min (fpExponent d) (fpExponent s) : Nat) : Int) - 150) := by
  have hd := min_le_left (fpExponent d) (fpExponent s)
  have hs := min_le_right (fpExponent d) (fpExponent s)
  unfold alignedSum
  dsimp only
  generalize min (fpExponent d) (fpExponent s) = m at *
  push_cast [add_mul, mul_assoc]
  rw [two_pow_sub_mul hd, two_pow_sub_mul hs, fpValue_eq_signedSignificand, fpValue_eq_signedSignificand]

/-! ### The operations on normalized numbers -/

section Normal

variable {f : Fpsw} {d s : Word}

theorem fpAddCases_normal (hd : IsNormal d) (hs : IsNormal s) :
    fpAddCases f d s =
      if alignedSum d s = 0 then (signedZero (f.rm == 3), {})
      else fpResult f (decide (alignedSum d s < 0)) (alignedSum d s).natAbs 1
        ((min (fpExponent d) (fpExponent s) : Nat) - 150) := by
  simp [fpAddCases, hd.isInf, hs.isInf, hd.isZero, hs.isZero, zeroSumNegative]

/-- FADD's case table: the sum rounded once, or the zero of an exact zero sum (R335). -/
theorem fpAddCases_isFpResult (hd : IsNormal d) (hs : IsNormal s) :
    (fpValue d + fpValue s ≠ 0 → IsFpResult f (fpValue d + fpValue s) (fpAddCases f d s)) ∧
      (fpValue d + fpValue s = 0 → fpAddCases f d s = (signedZero (f.rm == 3), {})) := by
  have hu : (2 : ℚ) ^ (((min (fpExponent d) (fpExponent s) : Nat) : Int) - 150) ≠ 0 := by positivity
  rw [fpAddCases_normal hd hs, alignedSum_value, mul_eq_zero_iff_right hu, ne_eq, mul_eq_zero_iff_right hu,
    Int.cast_eq_zero]
  refine ⟨fun hsum => ?_, fun hsum => if_pos hsum⟩
  have hround := fpResult_isFpResult f (decide (alignedSum d s < 0))
    ((min (fpExponent d) (fpExponent s) : Nat) - 150) (Int.natAbs_pos.2 hsum) one_pos
  rw [Nat.cast_one, div_one, ← mul_assoc, ← intCast_eq_signFactor] at hround
  rwa [if_neg hsum]

theorem fpMul_isFpResult (hd : IsNormal d) (hs : IsNormal s) :
    IsFpResult f (fpValue d * fpValue s) (fpMul f d s) := by
  have hresult : fpMul f d s = fpResult f (d.msb ^^ s.msb) (significand d * significand s) 1
      ((fpExponent d + fpExponent s : Nat) - 300) := by
    rw [fpMul, fpArith_normal _ hd hs]
    simp [hd.isInf, hs.isInf, hd.isZero, hs.isZero]
  have hexp : (2 : ℚ) ^ (((fpExponent d + fpExponent s : Nat) : Int) - 300) =
      2 ^ ((fpExponent d : Int) - 150) * 2 ^ ((fpExponent s : Int) - 150) := by
    rw [← zpow_add₀ two_ne_zero]
    congr 1
    omega
  have hvalue : fpValue d * fpValue s = signFactor (d.msb ^^ s.msb) *
      (((significand d * significand s : Nat) : ℚ) / (1 : Nat) *
        2 ^ (((fpExponent d + fpExponent s : Nat) : Int) - 300)) := by
    rw [fpValue_eq_signFactor, fpValue_eq_signFactor, signFactor_xor, hexp]
    push_cast
    ring
  rw [hresult, hvalue]
  exact fpResult_isFpResult f _ _ (Nat.mul_pos (significand_pos d) (significand_pos s)) one_pos

theorem fpDiv_isFpResult (hd : IsNormal d) (hs : IsNormal s) :
    IsFpResult f (fpValue d / fpValue s) (fpDiv f d s) := by
  have hresult : fpDiv f d s = fpResult f (d.msb ^^ s.msb) (significand d) (significand s)
      ((fpExponent d : Int) - fpExponent s) := by
    rw [fpDiv, fpArith_normal _ hd hs]
    simp [hd.isInf, hs.isInf, hd.isZero, hs.isZero]
  have hexp : (2 : ℚ) ^ ((fpExponent d : Int) - fpExponent s) =
      2 ^ ((fpExponent d : Int) - 150) / 2 ^ ((fpExponent s : Int) - 150) := by
    rw [← zpow_sub₀ two_ne_zero, sub_sub_sub_cancel_right]
  have hsign : signFactor d.msb / signFactor s.msb = signFactor d.msb * signFactor s.msb :=
    (div_eq_iff (signFactor_ne_zero _)).2 (by rw [mul_assoc, signFactor_mul_self, mul_one])
  have hvalue : fpValue d / fpValue s = signFactor (d.msb ^^ s.msb) *
      ((significand d : ℚ) / significand s * 2 ^ ((fpExponent d : Int) - fpExponent s)) := by
    rw [fpValue_eq_signFactor, fpValue_eq_signFactor, signFactor_xor, hexp, mul_div_mul_comm, hsign, mul_div_mul_comm]
  rw [hresult, hvalue]
  exact fpResult_isFpResult f _ _ (significand_pos d) (significand_pos s)

end Normal

/-! ### The sign inverted -/

theorem magnitude_negated (v : Word) : magnitude (v ^^^ 0x80000000) = magnitude v := by
  simp [magnitude, BitVec.extractLsb'_xor]

theorem msb_negated (v : Word) : (v ^^^ 0x80000000).msb = !v.msb := by
  rw [BitVec.msb_xor, ← Bool.xor_true]
  rfl

theorem fpValue_negated (v : Word) : fpValue (v ^^^ 0x80000000) = -fpValue v := by
  rw [fpValue_eq, fpValue_eq, magnitude_negated, msb_negated]
  cases v.msb <;> simp

theorem isNormal_negated (v : Word) : IsNormal (v ^^^ 0x80000000) ↔ IsNormal v := by
  rw [isNormal_iff, isNormal_iff, magnitude_negated]

/-! ### Integers -/

theorem intToFp_isFpResult (f : Fpsw) {v : Word} (h : v.toInt ≠ 0) : IsFpResult f (v.toInt : ℚ) (intToFp f v) := by
  have hv : v ≠ 0 := by
    rintro rfl
    exact h rfl
  have hround := fpResult_isFpResult f (decide (v.toInt < 0)) 0 (Int.natAbs_pos.2 h) one_pos
  rw [Nat.cast_one, div_one, zpow_zero, mul_one, ← intCast_eq_signFactor, ← BitVec.msb_eq_toInt] at hround
  rwa [intToFp, if_neg hv]

/-- Settles O32: each operation rounds its exact value once. -/
theorem floatingPointResultsAreCorrectlyRounded : Obligations.FloatingPointResultsAreCorrectlyRounded := by
  intro f d s
  refine ⟨fun hd hs => ?_, intToFp_isFpResult f, fun h => if_pos (BitVec.eq_of_toInt_eq h)⟩
  have hs' := (isNormal_negated s).2 hs
  have hadd := fpAddCases_isFpResult (f := f) hd hs
  have hsub := fpAddCases_isFpResult (f := f) hd hs'
  rw [fpValue_negated, ← sub_eq_add_neg] at hsub
  rw [fpAdd, fpSub, fpArith_normal _ hd hs, fpArith_normal _ hd hs]
  exact ⟨hadd.1, hadd.2, hsub.1, hsub.2, fpMul_isFpResult hd hs, fpDiv_isFpResult hd hs⟩

end Sys2Proof.Machine
end

section
/-! Comparison by value (R336) and conversion to an integer (R340). -/

namespace Sys2Proof.Machine

/-! ### The number line -/

/-- The value at a place on the line of `orderKey`. -/
def lineValue (k : Int) : ℚ := k.sign * magValue k.natAbs

theorem lineValue_strictMono : StrictMono lineValue := by
  refine strictMono_of_odd_strictMonoOn_nonneg (fun k => ?_) fun j hj k _ hjk => ?_
  · rw [lineValue, lineValue, Int.sign_neg, Int.natAbs_neg]
    push_cast
    rw [neg_mul]
  · have hj0 : 0 ≤ j := hj
    have hk0 : 0 < k := hj0.trans_lt hjk
    have hmag : magValue j.natAbs < magValue k.natAbs := magValue_strictMono (by omega)
    rw [lineValue, lineValue, Int.sign_eq_one_of_pos hk0]
    rcases hj0.eq_or_lt with rfl | hj0
    · simpa using magValue_pos _
    · simpa [Int.sign_eq_one_of_pos hj0] using hmag

theorem orderKey_eq (v : Word) : orderKey v = if v.msb then -(magnitude v : Int) else magnitude v := rfl

/-- A zero or normalized number stands on the line at its value. -/
theorem fpReal_eq_lineValue {v : Word} (h : isZero v = true ∨ IsNormal v) : fpReal v = lineValue (orderKey v) := by
  rw [fpReal, orderKey_eq, lineValue]
  rcases h with h | h
  · rw [if_pos h, (isZero_iff v).1 h]
    simp
  · have hpos : 0 < (magnitude v : Int) := by
      have := ((isNormal_iff v).1 h).1
      omega
    rw [if_neg (by simp [h.isZero]), fpValue_eq]
    cases v.msb
    · simp [Int.sign_eq_one_of_pos hpos]
    · simp [Int.sign_neg, Int.sign_eq_one_of_pos hpos]

/-! ### FCMP -/

section Compare

variable {f : Fpsw} {a b : Word}

theorem fpCompare_sNaN (h : isSNaN a = true ∨ isSNaN b = true) : fpCompare f a b = (.unordered, { v := true }) :=
  if_pos (by simpa using h)

theorem fpCompare_qNaN (ha : isSNaN a = false) (hb : isSNaN b = false) (h : isQNaN a = true ∨ isQNaN b = true) :
    fpCompare f a b = (.unordered, {}) := by
  rw [fpCompare, ha, hb]
  exact (if_neg (by decide)).trans (if_pos (by simpa using h))

/-- The relation of two places on the line. -/
def lineOrder (j k : Int) : FpOrder := if j = k then .equal else if j < k then .less else .greater

theorem lineOrder_of_lt {j k : Int} (h : j < k) : lineOrder j k = .less := (if_neg h.ne).trans (if_pos h)

theorem lineOrder_of_gt {j k : Int} (h : k < j) : lineOrder j k = .greater := (if_neg h.ne').trans (if_neg h.not_gt)

/-- Operands that are no NaN: unimplemented processing of a denormalized one, or their places on the line. -/
theorem fpCompare_numbers (ha : isNaN a = false) (hb : isNaN b = false) :
    fpCompare f a b =
      if (!f.dn && (isDenormal a || isDenormal b)) = true then (.unordered, { e := true })
      else (lineOrder (orderKey (flushDenormal a)) (orderKey (flushDenormal b)), {}) := by
  obtain ⟨hsa, hqa⟩ := (isNaN_eq_false_iff a).1 ha
  obtain ⟨hsb, hqb⟩ := (isNaN_eq_false_iff b).1 hb
  rw [fpCompare, hsa, hsb, hqa, hqb]
  rfl

theorem fpCompare_plain (ha : IsPlain a) (hb : IsPlain b) :
    fpCompare f a b = (lineOrder (orderKey a) (orderKey b), {}) := by
  obtain ⟨ha, hda⟩ := ha
  obtain ⟨hb, hdb⟩ := hb
  rw [fpCompare_numbers ha hb, flushDenormal_of_not hda, flushDenormal_of_not hdb, if_neg (by simp [hda, hdb])]

end Compare

theorem IsPlain.of_finite {v : Word} (h : isZero v = true ∨ IsNormal v) : IsPlain v := h.elim .of_isZero .of_isNormal

theorem fpReal_order {a b : Word} (ha : isZero a = true ∨ IsNormal a) (hb : isZero b = true ∨ IsNormal b) :
    lineOrder (orderKey a) (orderKey b) =
      if fpReal a = fpReal b then .equal else if fpReal a < fpReal b then .less else .greater := by
  simp only [lineOrder, fpReal_eq_lineValue ha, fpReal_eq_lineValue hb, lineValue_strictMono.injective.eq_iff,
    lineValue_strictMono.lt_iff_lt]

/-- The infinities are outermost on the line. -/
theorem orderKey_isInf {a b : Word} (ha : isInf a = true) (hb : isZero b = true ∨ IsNormal b) :
    if a.msb then orderKey a < orderKey b else orderKey b < orderKey a := by
  rw [isZero_iff, isNormal_iff] at hb
  rw [orderKey_eq, orderKey_eq, (isInf_iff a).1 ha]
  cases a.msb <;> cases b.msb <;> simp <;> omega

/-- Settles O34. -/
theorem comparisonOrdersByValue : Obligations.ComparisonOrdersByValue := by
  intro f a b
  refine ⟨fpCompare_sNaN, fpCompare_qNaN, fun ha hb hden => ⟨fun hdn => ?_, fun hdn => ?_⟩, fun ha hb => ?_,
    fun ha hb => ?_, fun ha hb => ?_⟩
  · rw [fpCompare_numbers ha hb, if_pos (by simpa [hdn] using hden)]
  · rw [fpCompare_numbers ha hb, if_neg (by simp [hdn]), fpCompare_plain (.flushDenormal ha) (.flushDenormal hb)]
  · rw [fpCompare_plain (.of_finite ha) (.of_finite hb), fpReal_order ha hb]
  · rw [fpCompare_plain (.of_isInf ha) (.of_isInf hb), orderKey_eq, orderKey_eq, (isInf_iff a).1 ha,
      (isInf_iff b).1 hb]
    cases a.msb <;> cases b.msb <;> rfl
  · have hkey := orderKey_isInf ha hb
    rw [fpCompare_plain (.of_isInf ha) (.of_finite hb), fpCompare_plain (.of_finite hb) (.of_isInf ha)]
    cases hsign : a.msb with
    | true =>
      rw [hsign, if_pos rfl] at hkey
      exact ⟨by rw [lineOrder_of_lt hkey]; rfl, by rw [lineOrder_of_gt hkey]; rfl⟩
    | false =>
      rw [hsign, if_neg (by decide)] at hkey
      exact ⟨by rw [lineOrder_of_gt hkey]; rfl, by rw [lineOrder_of_lt hkey]; rfl⟩

end Sys2Proof.Machine
end

section
/-! Conversion to an integer (R340 to R342). -/

namespace Sys2Proof.Machine

/-! ### The rounded integer -/

/-- A sign and a magnitude as an integer. -/
def signedInt (neg : Bool) (q : Nat) : Int := if neg then -(q : Int) else q

theorem signedInt_cast (neg : Bool) (q : Nat) : (signedInt neg q : ℚ) = signFactor neg * q := by
  cases neg <;> simp [signedInt]

theorem RoundsMagnitude.roundsToInt {rm : BitVec 2} {neg : Bool} {y : ℚ} {q : Nat} (h : RoundsMagnitude rm neg y q)
    (hy : 0 ≤ y) : RoundsToInt rm (signFactor neg * y) (signedInt neg q) := by
  have hq : (0 : ℚ) ≤ q := q.cast_nonneg
  rw [RoundsToInt, signedInt_cast]
  refine ⟨?_, ?_, ?_, ?_⟩
  · intro hrm
    obtain ⟨hhalf, htie⟩ := h.nearest hrm
    rw [← mul_sub, abs_signFactor_mul]
    refine ⟨hhalf, fun heq => ?_⟩
    have heven := htie heq
    cases neg <;> simp only [signedInt] <;> omega
  · rintro rfl
    obtain ⟨hle, hlt⟩ := h.toZero (by decide) (by cases neg <;> rfl)
    rw [mul_mul_mul_comm, signFactor_mul_self, one_mul, abs_signFactor_mul, abs_signFactor_mul, abs_of_nonneg hy,
      abs_of_nonneg hq]
    exact ⟨mul_nonneg hq hy, hle, hlt⟩
  · rintro rfl
    cases neg with
    | false =>
      obtain ⟨hle, hlt⟩ := h.away rfl
      simp only [signFactor_false, one_mul]
      constructor <;> linarith
    | true =>
      obtain ⟨hle, hlt⟩ := h.toZero (by decide) rfl
      simp only [signFactor_true, neg_one_mul]
      constructor <;> linarith
  · rintro rfl
    cases neg with
    | false =>
      obtain ⟨hle, hlt⟩ := h.toZero (by decide) rfl
      simp only [signFactor_false, one_mul]
      constructor <;> linarith
    | true =>
      obtain ⟨hle, hlt⟩ := h.away rfl
      simp only [signFactor_true, neg_one_mul]
      constructor <;> linarith

theorem toInt_signed_word (neg : Bool) {q : Nat} (h : q < 2 ^ 31) :
    (if neg then -(BitVec.ofNat 32 q) else BitVec.ofNat 32 q).toInt = signedInt neg q := by
  have hq : (BitVec.ofNat 32 q).toInt = q := by
    rw [BitVec.toInt_ofNat']
    exact Int.bmod_eq_of_le (by omega) (by omega)
  cases neg with
  | false => exact hq
  | true =>
    rw [if_pos rfl, BitVec.toInt_neg, hq]
    exact Int.bmod_eq_of_le (by omega) (by omega)

/-! ### The range -/

theorem magValue_limit : magValue 0x4F000000 = 2 ^ 31 := by
  have h := magValue_grid 158 (k := 0) (by decide)
  norm_num at h ⊢
  exact h

theorem magValue_below_limit : magValue 0x4EFFFFFF = (2 ^ 31 - 128 : Nat) := by
  have h := magValue_grid 157 (k := 2 ^ 23 - 1) (by decide)
  norm_num at h ⊢
  exact h

/-- The numbers of 2^31 and more are those with an exponent of 158 or more. -/
theorem limit_le_abs_fpValue (v : Word) : 2 ^ 31 ≤ |fpValue v| ↔ 158 ≤ fpExponent v := by
  rw [abs_fpValue, ← magValue_limit, magValue_strictMono.le_iff_le, fpExponent_eq]
  omega

theorem fpValue_eq_limit (v : Word) : fpValue v = -2 ^ 31 ↔ v = 0xCF000000 := by
  have hlimit : fpValue 0xCF000000 = -2 ^ 31 := by
    have hword : (0xCF000000 : Word) = signed true 0x4F000000 := by decide
    rw [hword, fpValue_signed (by decide), magValue_limit, signFactor_true, neg_one_mul]
  rw [← hlimit, fpValue_injective.eq_iff]

/-! ### FTOI and ROUND -/

section ToInt

variable {f : Fpsw} {rm : BitVec 2} {v : Word}

theorem fpToInt_special (h : isNaN v = true ∨ isInf v = true) :
    fpToInt f rm v = (conversionLimit v.msb, { v := true }) := if_pos (by simpa using h)

theorem fpToInt_zero (h : isZero v = true) : fpToInt f rm v = (0, {}) := by
  have hplain := IsPlain.of_isZero h
  have hinf : isInf v = false := by
    rw [isZero_iff] at h
    rw [Bool.eq_false_iff, ne_eq, isInf_iff]
    omega
  simp [fpToInt, hplain.notNaN, hplain.notDenormal, hinf, h]

theorem fpToInt_denormal (h : isDenormal v = true) : fpToInt f rm v = (0, { e := !f.dn }) := by
  have hnan : isNaN v = false := by
    rw [isDenormal_iff] at h
    rw [Bool.eq_false_iff, ne_eq, isNaN_iff]
    omega
  have hinf : isInf v = false := by
    rw [isDenormal_iff] at h
    rw [Bool.eq_false_iff, ne_eq, isInf_iff]
    omega
  simp [fpToInt, hnan, hinf, h]

theorem abs_fpValue_eq_significand (v : Word) :
    |fpValue v| = significand v * 2 ^ ((fpExponent v : Int) - 150) := by
  rw [fpValue_eq_signFactor, abs_signFactor_mul, abs_of_nonneg (by positivity)]

theorem fpValue_eq_abs (v : Word) : fpValue v = signFactor v.msb * |fpValue v| := by
  rw [abs_fpValue, fpValue_eq]

/-- The magnitude of the integer to which a number rounds, and whether it is inexact. -/
def roundedMagnitude (rm : BitVec 2) (v : Word) : Nat × Bool :=
  roundQuotient rm v.msb (scaleFraction (significand v) 1 ((fpExponent v : Int) - 150)).1
    (scaleFraction (significand v) 1 ((fpExponent v : Int) - 150)).2

theorem roundedMagnitude_rounds (rm : BitVec 2) (v : Word) :
    RoundsMagnitude rm v.msb |fpValue v| (roundedMagnitude rm v).1 ∧
      (roundedMagnitude rm v).2 = decide (((roundedMagnitude rm v).1 : ℚ) ≠ |fpValue v|) := by
  have hden := scaleFraction_den_pos (significand v) one_pos ((fpExponent v : Int) - 150)
  have hvalue := scaleFraction_value (significand v) 1 ((fpExponent v : Int) - 150)
  rw [Nat.cast_one, div_one, ← abs_fpValue_eq_significand] at hvalue
  rw [← hvalue]
  exact ⟨roundQuotient_rounds rm v.msb _ hden, roundQuotient_inexact rm v.msb _ hden⟩

theorem fpToInt_normal (h : IsNormal v) :
    fpToInt f rm v =
      if 158 ≤ fpExponent v then (conversionLimit v.msb, { v := v != 0xCF000000 })
      else
        (if v.msb then -(BitVec.ofNat 32 (roundedMagnitude rm v).1) else BitVec.ofNat 32 (roundedMagnitude rm v).1,
          { x := (roundedMagnitude rm v).2 }) := by
  have hplain := IsPlain.of_isNormal h
  rw [fpToInt, hplain.notNaN, hplain.notDenormal, h.isInf, h.isZero]
  rfl

theorem fpToInt_beyond (h : IsNormal v) (hbig : 2 ^ 31 ≤ |fpValue v|) :
    fpToInt f rm v = (conversionLimit v.msb, { v := v != 0xCF000000 }) := by
  rw [fpToInt_normal h, if_pos ((limit_le_abs_fpValue v).1 hbig)]

/-- Inside the range the rounded magnitude, at most the largest such number, fits its sign. -/
theorem fpToInt_inside (h : IsNormal v) (hsmall : |fpValue v| < 2 ^ 31) :
    RoundsToInt rm (fpValue v) (fpToInt f rm v).1.toInt ∧
      (fpToInt f rm v).2 = { x := decide (((fpToInt f rm v).1.toInt : ℚ) ≠ fpValue v) } := by
  have hexp : ¬158 ≤ fpExponent v := mt (limit_le_abs_fpValue v).2 hsmall.not_ge
  obtain ⟨hround, hexact⟩ := roundedMagnitude_rounds rm v
  have hmax : |fpValue v| ≤ (2 ^ 31 - 128 : Nat) := by
    rw [← magValue_below_limit, abs_fpValue, magValue_strictMono.le_iff_le]
    rw [fpExponent_eq] at hexp
    omega
  have hfits : (roundedMagnitude rm v).1 < 2 ^ 31 := (hround.ge_of_ge hmax).trans_lt (by decide)
  have hint : (fpToInt f rm v).1.toInt = signedInt v.msb (roundedMagnitude rm v).1 := by
    rw [fpToInt_normal h, if_neg hexp]
    exact toInt_signed_word v.msb hfits
  have hne : (signedInt v.msb (roundedMagnitude rm v).1 : ℚ) ≠ fpValue v ↔
      ((roundedMagnitude rm v).1 : ℚ) ≠ |fpValue v| := by
    rw [signedInt_cast, fpValue_eq_abs, ne_eq, mul_right_inj' (signFactor_ne_zero _), abs_signFactor_mul, abs_abs]
  rw [hint]
  constructor
  · rw [fpValue_eq_abs]
    exact hround.roundsToInt (abs_nonneg _)
  · rw [fpToInt_normal h, if_neg hexp, hexact]
    exact congrArg (fun x => ({ x := x } : Events)) (decide_eq_decide.2 hne.symm)

end ToInt

/-- Settles O35. -/
theorem conversionsToIntegerRound : Obligations.ConversionsToIntegerRound := by
  intro f rm v
  refine ⟨?_, fpToInt_zero, fpToInt_denormal, fun hv hlimit => ?_, fpToInt_inside⟩
  · rintro (hv | hv | ⟨hv, hbig, hne⟩)
    · exact fpToInt_special (.inl hv)
    · exact fpToInt_special (.inr hv)
    · rw [ne_eq, fpValue_eq_limit] at hne
      rw [fpToInt_beyond hv hbig, bne_iff_ne.2 hne]
      rfl
  · rw [fpToInt_beyond hv (by rw [hlimit]; norm_num), (fpValue_eq_limit v).1 hlimit]
    rfl

end Sys2Proof.Machine
end

section
/-! NaN, denormalized, infinite and zero operands (R321, R322, R327) and the case tables of FADD, FSUB, FMUL and FDIV
(R335, R337 to R339). -/

namespace Sys2Proof.Machine

/-! ### NaN and denormalized operands -/

theorem isNaN_of_isSNaN {v : Word} (h : isSNaN v = true) : isNaN v = true := (Bool.and_eq_true_iff.1 h).1

theorem isNaN_of_isQNaN {v : Word} (h : isQNaN v = true) : isNaN v = true := (Bool.and_eq_true_iff.1 h).1

theorem isSNaN_of_isQNaN {v : Word} (h : isQNaN v = true) : isSNaN v = false := by
  rw [isSNaN, (Bool.and_eq_true_iff.1 h).2]
  exact Bool.and_false _

theorem flushDenormal_of_isNaN {v : Word} (h : isNaN v = true) : flushDenormal v = v := by
  refine flushDenormal_of_not ?_
  rw [isNaN_iff] at h
  rw [Bool.eq_false_iff, ne_eq, isDenormal_iff]
  omega

/-- With DN = 1 a denormalized number is as good as the zero of its sign: it is no NaN before or after. -/
theorem isNaN_kinds_flushDenormal (v : Word) :
    isSNaN (flushDenormal v) = isSNaN v ∧ isQNaN (flushDenormal v) = isQNaN v := by
  cases h : isNaN v with
  | true => simp only [flushDenormal_of_isNaN h, and_self]
  | false =>
    obtain ⟨hs, hq⟩ := (isNaN_eq_false_iff v).1 h
    obtain ⟨hs', hq'⟩ := (isNaN_eq_false_iff _).1 (IsPlain.flushDenormal h).notNaN
    rw [hs, hq, hs', hq']
    exact ⟨rfl, rfl⟩

theorem flushDenormal_flushDenormal (v : Word) : flushDenormal (flushDenormal v) = flushDenormal v := by
  cases h : isNaN v with
  | true => simp only [flushDenormal_of_isNaN h]
  | false => exact flushDenormal_of_not (IsPlain.flushDenormal h).notDenormal

section Order

variable {f : Fpsw} {d s : Word} {k : Word → Word → Word × Events}

theorem fpArith_sNaN_dest (h : isSNaN d = true) : fpArith f d s k = (quiet d, { v := true }) := if_pos h

theorem fpArith_sNaN_src (hd : isSNaN d = false) (hs : isSNaN s = true) :
    fpArith f d s k = (quiet s, { v := true }) := by
  rw [fpArith, if_neg (by simp [hd]), if_pos hs]

theorem fpArith_qNaN_dest (hd : isQNaN d = true) (hs : isSNaN s = false) : fpArith f d s k = (d, {}) := by
  rw [fpArith, if_neg (by simp [isSNaN_of_isQNaN hd]), if_neg (by simp [hs]), if_pos hd]

theorem fpArith_qNaN_src (hd : isNaN d = false) (hs : isQNaN s = true) : fpArith f d s k = (s, {}) := by
  obtain ⟨hsd, hqd⟩ := (isNaN_eq_false_iff d).1 hd
  rw [fpArith, if_neg (by simp [hsd]), if_neg (by simp [isSNaN_of_isQNaN hs]), if_neg (by simp [hqd]), if_pos hs]

theorem fpArith_denormal (hd : isNaN d = false) (hs : isNaN s = false)
    (h : isDenormal d = true ∨ isDenormal s = true) (hdn : f.dn = false) : (fpArith f d s k).2 = { e := true } := by
  rw [fpArith_numbers k hd hs, if_pos (by simpa [hdn] using h)]

/-- With DN = 1 every denormalized operand counts as zero (R321). -/
theorem fpArith_flushDenormal (hdn : f.dn = true) :
    fpArith f d s k = fpArith f (flushDenormal d) (flushDenormal s) k := by
  obtain ⟨hsd, hqd⟩ := isNaN_kinds_flushDenormal d
  obtain ⟨hss, hqs⟩ := isNaN_kinds_flushDenormal s
  unfold fpArith
  rw [hsd, hqd, hss, hqs, hdn, flushDenormal_flushDenormal, flushDenormal_flushDenormal]
  split
  next h => rw [flushDenormal_of_isNaN (isNaN_of_isSNaN h)]
  next =>
    split
    next h => rw [flushDenormal_of_isNaN (isNaN_of_isSNaN h)]
    next =>
      split
      next h => rw [flushDenormal_of_isNaN (isNaN_of_isQNaN h)]
      next =>
        split
        next h => rw [flushDenormal_of_isNaN (isNaN_of_isQNaN h)]
        next => rfl

end Order

/-- The four operations of two operands share the order of R322 and differ in their case tables. -/
theorem exists_cases_of_mem {op : Fpsw → Word → Word → Word × Events} (h : op ∈ [fpAdd, fpSub, fpMul, fpDiv]) :
    ∃ k : Fpsw → Word → Word → Word × Events, op = fun f d s => fpArith f d s (k f) := by
  simp only [List.mem_cons, List.not_mem_nil, or_false] at h
  obtain rfl | rfl | rfl | rfl := h
  · exact ⟨fpAddCases, rfl⟩
  · exact ⟨fun f d s => fpAddCases f d (s ^^^ 0x80000000), rfl⟩
  · exact ⟨_, rfl⟩
  · exact ⟨_, rfl⟩

/-! ### Infinities and zeros -/

theorem isZero_of_isInf {v : Word} (h : isInf v = true) : isZero v = false := by
  rw [isInf_iff] at h
  rw [Bool.eq_false_iff, ne_eq, isZero_iff]
  omega

theorem isInf_of_isZero {v : Word} (h : isZero v = true) : isInf v = false := by
  rw [isZero_iff] at h
  rw [Bool.eq_false_iff, ne_eq, isInf_iff]
  omega

@[simp] theorem msb_signedInf (neg : Bool) : (signedInf neg).msb = neg := msb_signed neg _

@[simp] theorem msb_signedZero (neg : Bool) : (signedZero neg).msb = neg := msb_signed neg _

section Tables

variable {f : Fpsw} {d s : Word}

theorem fpAdd_infinity_dest (hd : isInf d = true) (hs : IsPlain s) (h : isInf s = true → d.msb = s.msb) :
    fpAdd f d s = (d, {}) := by
  rw [fpAdd, fpArith_plain _ (.of_isInf hd) hs, fpAddCases, if_pos hd, if_neg]
  simpa using h

theorem fpAdd_infinity_src (hd : IsPlain d) (hd' : isInf d = false) (hs : isInf s = true) :
    fpAdd f d s = (s, {}) := by
  rw [fpAdd, fpArith_plain _ hd (.of_isInf hs), fpAddCases, if_neg (by simp [hd']), if_pos hs]

theorem fpAdd_infinities_invalid (hd : isInf d = true) (hs : isInf s = true) (h : d.msb ≠ s.msb) :
    fpAdd f d s = (0x7FFFFFFF, { v := true }) := by
  rw [fpAdd, fpArith_plain _ (.of_isInf hd) (.of_isInf hs), fpAddCases, if_pos hd, if_pos (by simpa [hs] using h)]
  rfl

theorem fpAdd_zeros (hd : isZero d = true) (hs : isZero s = true) :
    fpAdd f d s = (if d.msb = s.msb then d else signedZero (f.rm == 3), {}) := by
  rw [fpAdd, fpArith_plain _ (.of_isZero hd) (.of_isZero hs)]
  simp [fpAddCases, isInf_of_isZero hd, isInf_of_isZero hs, hd, hs, zeroSumNegative]

theorem fpAdd_zero_src (hd : IsNormal d) (hs : isZero s = true) : fpAdd f d s = (d, {}) := by
  rw [fpAdd, fpArith_plain _ (.of_isNormal hd) (.of_isZero hs)]
  simp [fpAddCases, isInf_of_isZero hs, hs, hd.isInf, hd.isZero]

theorem fpAdd_zero_dest (hd : isZero d = true) (hs : IsNormal s) : fpAdd f d s = (s, {}) := by
  rw [fpAdd, fpArith_plain _ (.of_isZero hd) (.of_isNormal hs)]
  simp [fpAddCases, isInf_of_isZero hd, hd, hs.isInf, hs.isZero]

/-- An infinity times a zero (R338). -/
theorem fpMul_invalid (h : isInf d = true ∧ isZero s = true ∨ isZero d = true ∧ isInf s = true) :
    fpMul f d s = (0x7FFFFFFF, { v := true }) := by
  have hplain : IsPlain d ∧ IsPlain s := by
    rcases h with ⟨hd, hs⟩ | ⟨hd, hs⟩
    · exact ⟨.of_isInf hd, .of_isZero hs⟩
    · exact ⟨.of_isZero hd, .of_isInf hs⟩
  rw [fpMul, fpArith_plain _ hplain.1 hplain.2]
  exact if_pos (by simpa using h)

theorem fpMul_infinity (hd : IsPlain d) (hs : IsPlain s) (hd' : isZero d = false) (hs' : isZero s = false)
    (h : isInf d = true ∨ isInf s = true) : fpMul f d s = (signedInf (d.msb ^^ s.msb), {}) := by
  rw [fpMul, fpArith_plain _ hd hs]
  simp [hd', hs', h]

theorem fpMul_zero (hd : IsPlain d) (hs : IsPlain s) (hd' : isInf d = false) (hs' : isInf s = false)
    (h : isZero d = true ∨ isZero s = true) : fpMul f d s = (signedZero (d.msb ^^ s.msb), {}) := by
  rw [fpMul, fpArith_plain _ hd hs]
  simp [hd', hs', h]

theorem fpDiv_invalid (h : isInf d = true ∧ isInf s = true ∨ isZero d = true ∧ isZero s = true) :
    fpDiv f d s = (0x7FFFFFFF, { v := true }) := by
  have hplain : IsPlain d ∧ IsPlain s := by
    rcases h with ⟨hd, hs⟩ | ⟨hd, hs⟩
    · exact ⟨.of_isInf hd, .of_isInf hs⟩
    · exact ⟨.of_isZero hd, .of_isZero hs⟩
  rw [fpDiv, fpArith_plain _ hplain.1 hplain.2]
  exact if_pos (by simpa using h)

theorem fpDiv_infinity_dest (hd : isInf d = true) (hs : IsPlain s) (hs' : isInf s = false) :
    fpDiv f d s = (signedInf (d.msb ^^ s.msb), {}) := by
  rw [fpDiv, fpArith_plain _ (.of_isInf hd) hs]
  simp [hd, hs', isZero_of_isInf hd]

theorem fpDiv_infinity_src (hd : IsPlain d) (hd' : isInf d = false) (hs : isInf s = true) :
    fpDiv f d s = (signedZero (d.msb ^^ s.msb), {}) := by
  rw [fpDiv, fpArith_plain _ hd (.of_isInf hs)]
  simp [hd', hs, isZero_of_isInf hs]

theorem fpDiv_zero_src (hd : IsNormal d) (hs : isZero s = true) :
    fpDiv f d s = (signedInf (d.msb ^^ s.msb), { z := true }) := by
  rw [fpDiv, fpArith_plain _ (.of_isNormal hd) (.of_isZero hs)]
  simp [hd.isInf, hd.isZero, hs, isInf_of_isZero hs]

theorem fpDiv_zero_dest (hd : isZero d = true) (hs : IsNormal s) :
    fpDiv f d s = (signedZero (d.msb ^^ s.msb), {}) := by
  rw [fpDiv, fpArith_plain _ (.of_isZero hd) (.of_isNormal hs)]
  simp [hs.isInf, hs.isZero, hd, isInf_of_isZero hd]

theorem isNaN_negated (v : Word) : isNaN (v ^^^ 0x80000000) = isNaN v := by
  rw [Bool.eq_iff_iff, isNaN_iff, isNaN_iff, magnitude_negated]

theorem isDenormal_negated (v : Word) : isDenormal (v ^^^ 0x80000000) = isDenormal v := by
  rw [Bool.eq_iff_iff, isDenormal_iff, isDenormal_iff, magnitude_negated]

/-- FSUB is FADD of the source with its sign inverted (R339). -/
theorem fpSub_eq_fpAdd (hd : isNaN d = false) (hs : isNaN s = false) (hs' : isDenormal s = false) :
    fpSub f d s = fpAdd f d (s ^^^ 0x80000000) := by
  have hneg : isDenormal (s ^^^ 0x80000000) = false := (isDenormal_negated s).trans hs'
  rw [fpSub, fpAdd, fpArith_numbers _ hd hs, fpArith_numbers _ hd ((isNaN_negated s).trans hs),
    flushDenormal_of_not hs', flushDenormal_of_not hneg, hs', hneg]

end Tables

/-- Settles O33: the order of the classes, then the tables cell by cell. -/
theorem specialOperandsFollowTheTables : Obligations.SpecialOperandsFollowTheTables := by
  intro f d s a b
  have hia := isInf_signedInf a
  have hib := isInf_signedInf b
  have hza := isZero_signedZero a
  have hzb := isZero_signedZero b
  refine ⟨fun op hop => ?_, ?_, ?_, ?_, ?_, ?_, ?_, ?_, ?_, ?_, ?_, ?_, ?_,
    fun hd => ⟨?_, ?_, ?_, ?_, ?_, ?_, ?_, ?_, ?_, ?_, ?_, ?_⟩, fpSub_eq_fpAdd⟩
  · obtain ⟨k, rfl⟩ := exists_cases_of_mem hop
    exact ⟨fpArith_sNaN_dest, fpArith_sNaN_src, fpArith_qNaN_dest, fpArith_qNaN_src, fpArith_denormal,
      fpArith_flushDenormal⟩
  · split
    next hab => exact fpAdd_infinity_dest hia (.of_isInf hib) fun _ => by simpa using hab
    next hab => exact fpAdd_infinities_invalid hia hib (by simpa using hab)
  · simpa using fpMul_infinity (.of_isInf hia) (.of_isInf hib) (isZero_of_isInf hia) (isZero_of_isInf hib) (.inl hia)
  · exact fpMul_invalid (.inl ⟨hia, hzb⟩)
  · exact fpMul_invalid (.inr ⟨hza, hib⟩)
  · exact fpDiv_invalid (.inl ⟨hia, hib⟩)
  · exact fpDiv_invalid (.inr ⟨hza, hzb⟩)
  · simpa using fpDiv_infinity_dest hia (.of_isZero hzb) (isInf_of_isZero hzb)
  · simpa using fpDiv_infinity_src (.of_isZero hza) (isInf_of_isZero hza) hib
  · simpa using fpAdd_zeros hza hzb
  · simpa using fpMul_zero (.of_isZero hza) (.of_isZero hzb) (isInf_of_isZero hza) (isInf_of_isZero hzb) (.inl hza)
  · exact fpAdd_infinity_dest hia (.of_isZero hzb) fun h => absurd h (by simp [isInf_of_isZero hzb])
  · exact fpAdd_infinity_src (.of_isZero hza) (isInf_of_isZero hza) hib
  · exact fpAdd_infinity_src (.of_isNormal hd) hd.isInf hib
  · exact fpAdd_infinity_dest hib (.of_isNormal hd) fun h => absurd h (by simp [hd.isInf])
  · exact fpAdd_zero_src hd hzb
  · exact fpAdd_zero_dest hzb hd
  · simpa using fpMul_infinity (.of_isNormal hd) (.of_isInf hib) hd.isZero (isZero_of_isInf hib) (.inr hib)
  · simpa [Bool.xor_comm] using
      fpMul_infinity (.of_isInf hib) (.of_isNormal hd) (isZero_of_isInf hib) hd.isZero (.inl hib)
  · simpa using fpMul_zero (.of_isNormal hd) (.of_isZero hzb) hd.isInf (isInf_of_isZero hzb) (.inr hzb)
  · simpa [Bool.xor_comm] using
      fpMul_zero (.of_isZero hzb) (.of_isNormal hd) (isInf_of_isZero hzb) hd.isInf (.inl hzb)
  · simpa using fpDiv_infinity_src (.of_isNormal hd) hd.isInf hib
  · simpa [Bool.xor_comm] using fpDiv_infinity_dest hib (.of_isNormal hd) hd.isInf
  · simpa using fpDiv_zero_src hd hzb
  · simpa [Bool.xor_comm] using fpDiv_zero_dest hzb hd

end Sys2Proof.Machine
end

section
/-! How a floating-point instruction ends: it completes with its result and FPSW, or takes the floating-point exception
(R325, R333). -/

namespace Sys2Proof.Machine

/-! ### FPSW -/

theorem Fpsw.recorded (f : Fpsw) (e : Events) : Recorded e f (f.record e) := by
  constructor <;> simp [Fpsw.record]

theorem Fpsw.traps_iff (f : Fpsw) (e : Events) : f.traps e = true ↔ FpTraps f e := by
  simp [Fpsw.traps, FpTraps, or_assoc]

/-! ### Operands -/

theorem State.withFpu_eq {s : State} (h : s.product.hasFpu = true) (k : Out) : s.withFpu k = k := if_pos h

/-- An instruction with a register or longword memory source goes on with the operand's value. -/
theorem State.withL_eq {s : State} {src : RegOrMem} {v : Word} (h : s.LIs src v) (k : Word → Out) :
    s.withL src k = k v := by
  cases src with
  | reg r => exact congrArg k h.symm
  | mem b d =>
    obtain ⟨hread, rfl⟩ := h
    rw [← s.ea_long] at hread ⊢
    exact s.load_eq _ .l k hread

/-! ### Frames -/

/-- The state with other values of FPSW, ACC and the counter of free values: all that may differ from the state the
instruction began with when its events are known (R325, R338). -/
def State.withFp (s : State) (f : Fpsw) (acc : BitVec 64) (fresh : Nat) : State :=
  { s with fpsw := f, acc := acc, fresh := fresh }

theorem State.clobberAcc_eq_withFp (s : State) :
    s.clobberAcc = s.withFp s.fpsw (Config.freeAcc s.fresh) (s.fresh + 1) := rfl

theorem Frame.fp {regs : List Reg} {bits : List PswBit} {s t : State} {f : Fpsw} {acc : BitVec 64} {fresh : Nat}
    (h : Frame regs bits (s.withFp f acc fresh) t) : FrameFp regs bits s t where
  regs := ⟨h.regs.regs, h.regs.otherSp⟩
  psw := ⟨h.psw.bits, h.psw.pm, h.psw.ipl⟩
  control :=
    have c := h.control
    ⟨c.intb, c.bpc, c.bpsw, c.fintv, c.waiting, c.nmiPending, c.product, c.inputs, c.ack, c.rmpa⟩
  memory := h.memory

theorem SamePsw.of_zs (s : State) (z n : Bool) : SamePsw [.z, .s] s (s.withPsw { s.psw with z := z, s := n }) :=
  ⟨fun
    | .c, _ | .o, _ | .i, _ | .u, _ => rfl
    | .z, hb | .s, hb => absurd (by decide) hb, rfl, rfl⟩

theorem SamePsw.of_setOrder (s : State) (r : FpOrder) : SamePsw [.o, .s, .z] s (s.withPsw (s.psw.setOrder r)) := by
  have h := Psw.SameMode.setOrder s.psw r
  exact ⟨fun
    | .i, _ => h.i
    | .u, _ => h.u
    | .c, _ => by cases r <;> rfl
    | .o, hb | .s, hb | .z, hb => absurd (by decide) hb, h.pm, h.ipl⟩

/-- The flags of a comparison tell the four relations apart (R336). -/
theorem Psw.setOrder_flags (p : Psw) (r : FpOrder) :
    ((p.setOrder r).o = true ↔ r = .unordered) ∧ ((p.setOrder r).s = true ↔ r = .less) ∧
      ((p.setOrder r).z = true ↔ r = .equal) := by
  cases r <;> simp [Psw.setOrder]

/-! ### `fp_execute` -/

section Execute

variable {s : State} {i : Instr} {e : Events} {acc : BitVec 64} {fresh : Nat}

/-- Without a trap the instruction goes on with its events recorded. -/
theorem State.fpExecute_goesOn (h : ¬FpTraps s.fpsw e) (k : State → Out) :
    (s.withFp s.fpsw acc fresh).fpExecute e k = k (s.withFp (s.fpsw.record e) acc fresh) :=
  if_neg (mt (s.fpsw.traps_iff e).1 h)

/-- A trap enters the exception from a state that differs in FPSW and free values only. -/
theorem fpException_of_exec {k : State → Out} {accFree : Bool} (hm : Memory.wf s.mem = true)
    (hexec : exec i s = (s.withFp s.fpsw acc fresh).fpExecute e k) (hacc : accFree = false → acc = s.acc)
    (h : FpTraps s.fpsw e) : FpException i e accFree s := by
  have hraise : exec i s = (s.withFp (s.fpsw.record e) acc fresh).raise .floating :=
    hexec.trans (if_pos ((s.fpsw.traps_iff e).2 h))
  exact ⟨s.fpsw.record e, acc, fresh, s.fpsw.recorded e, hacc,
    hraise ▸ (s.withFp (s.fpsw.record e) acc fresh).enter_entersAt .floating s.pc hm⟩

/-- An instruction that ends by writing rd, Z and S. -/
theorem fpRuns_of_exec {rd : Reg} {r : Word × Events} {z accFree : Bool} {n : Nat} (hm : Memory.wf s.mem = true)
    (hexec : exec i s = (s.withFp s.fpsw acc fresh).fpExecute r.2 fun t =>
      t.finish rd (r.1, { t.psw with z := z, s := r.1.msb }) n)
    (hacc : accFree = false → acc = s.acc) : FpRuns i rd r z accFree n s := by
  refine ⟨fun h => ?_, fpException_of_exec hm hexec hacc⟩
  rw [Completes, hexec, State.fpExecute_goesOn h]
  obtain ⟨t, ht, hpsw, hvalue, hpc, hframe⟩ :=
    (s.withFp (s.fpsw.record r.2) acc fresh).finish_wrote rd (r := (r.1, { s.psw with z := z, s := r.1.msb })) n
      (SamePsw.of_zs _ _ _) (by decide)
  refine ⟨t, ht, ⟨hvalue, by rw [hpsw], by rw [hpsw], ?_, hpc, hframe.fp⟩, fun hfree => hframe.acc.trans (hacc hfree)⟩
  rw [hframe.fpsw]
  exact s.fpsw.recorded r.2

/-- A comparison. -/
theorem fcmpRuns_of_exec {r : FpOrder × Events} {n : Nat} (hm : Memory.wf s.mem = true)
    (hexec : exec i s = s.fpFinishCompare r n) : FcmpRuns i r n s := by
  refine ⟨fun h => ?_, fpException_of_exec (acc := s.acc) (fresh := s.fresh) hm hexec fun _ => rfl⟩
  rw [Completes, hexec]
  obtain ⟨t, ht, hpsw, hpc, hframe⟩ :=
    (s.withFp (s.fpsw.record r.2) s.acc s.fresh).flagsOnly_flagged n (SamePsw.of_setOrder _ r.1) (by decide)
  obtain ⟨ho, hs, hz⟩ := s.psw.setOrder_flags r.1
  refine ⟨t, (State.fpExecute_goesOn h _).trans ht, ?_⟩
  rw [hpsw, hframe.fpsw]
  exact ⟨ho, hs, hz, s.fpsw.recorded r.2, hpc, hframe.acc, hframe.fp⟩

/-- An instruction that writes a floating-point result. -/
theorem fpRuns_of_fpFinish {rd : Reg} {r : Word × Events} {n : Nat} (hm : Memory.wf s.mem = true)
    (hexec : exec i s = s.fpFinish rd r n) : FpRuns i rd r (isZero r.1) false n s :=
  fpRuns_of_exec (acc := s.acc) (fresh := s.fresh) hm hexec fun _ => rfl

/-- An instruction that writes an integer. -/
theorem fpRuns_of_fpFinishInt {rd : Reg} {r : Word × Events} {n : Nat} (hm : Memory.wf s.mem = true)
    (hexec : exec i s = s.fpFinishInt rd r n) : FpRuns i rd r (r.1 == 0) false n s :=
  fpRuns_of_exec (acc := s.acc) (fresh := s.fresh) hm hexec fun _ => rfl

/-- FMUL: ACC is free, on a trap too. -/
theorem fpRuns_of_clobberAcc {rd : Reg} {r : Word × Events} {n : Nat} (hm : Memory.wf s.mem = true)
    (hexec : exec i s = s.clobberAcc.fpFinish rd r n) : FpRuns i rd r (isZero r.1) true n s :=
  fpRuns_of_exec hm (s.clobberAcc_eq_withFp ▸ hexec) nofun

end Execute

/-! ### The instructions -/

/-- The FPU is there and the source can be read: the instruction goes on with the source's value. -/
theorem State.withFpu_withL_eq {s : State} (hfpu : s.product.hasFpu = true) {src : RegOrMem} {v : Word}
    (hv : s.LIs src v) (k : Word → Out) : s.withFpu (s.withL src k) = k v :=
  (State.withFpu_eq hfpu _).trans (State.withL_eq hv k)

/-- Settles O31: each form goes on from its source operand to one of the ends above. -/
theorem floatingPointInstructionsRunOrTrap : Obligations.FloatingPointInstructionsRunOrTrap := by
  rintro s rd imm _ hm hfpu rfl
  refine ⟨⟨fpRuns_of_fpFinish hm (State.withFpu_eq hfpu _), fpRuns_of_fpFinish hm (State.withFpu_eq hfpu _),
    fpRuns_of_clobberAcc hm (State.withFpu_eq hfpu _), fpRuns_of_fpFinish hm (State.withFpu_eq hfpu _),
    fcmpRuns_of_exec hm (State.withFpu_eq hfpu _)⟩, ?_, fun src v hv => ?_, fun mx b d v hv => ?_⟩
  · rintro src v _ hv rfl
    have goesOn := State.withFpu_withL_eq hfpu hv
    exact ⟨fpRuns_of_fpFinish hm (goesOn _), fpRuns_of_fpFinish hm (goesOn _), fpRuns_of_clobberAcc hm (goesOn _),
      fpRuns_of_fpFinish hm (goesOn _), fcmpRuns_of_exec hm (goesOn _), fpRuns_of_fpFinishInt hm (goesOn _),
      fpRuns_of_fpFinishInt hm (goesOn _)⟩
  · exact fpRuns_of_fpFinish hm ((State.withFpu_eq hfpu _).trans (State.withRm_eq hv _))
  · exact fpRuns_of_fpFinish hm ((State.withFpu_eq hfpu _).trans (State.withMx_eq hv _))

end Sys2Proof.Machine
end

section
/-! Moves between registers, loads and stores: the values, the extensions as numbers, and the frames (R381 to R383,
R390 to R395). -/

namespace Sys2Proof.Machine

/-! ### Registers and immediates -/

/-- SCCnd writes 1 or 0 (R392). -/
theorem bitWord_eq_ite (b : Bool) : bitWord b = if b then 1 else 0 := by cases b <;> rfl

/-- XCHG of registers: both are read before either is written, so a register exchanged with itself is kept (R395). -/
theorem xchg_registers (s : State) (rs rd : Reg) :
    Completes (.xchgRm (.reg rs) rd) s fun t =>
      t.reg rd = s.reg rs ∧ t.reg rs = s.reg rd ∧ t.pc = s.after 3 ∧ Frame [rs, rd] [] s t := by
  refine ⟨_, rfl, State.reg_setReg_same _ rd _, ?_, by simp [State.after], ?_⟩
  · rw [State.reg_advance, State.reg_setReg]
    split
    next h => rw [h]
    next => exact s.reg_setReg_same rs _
  · exact (((Frame.refl [rs, rd] [] s).setReg (by simp) _).setReg (by simp) _).advance 3

/-- Settles O37: each form ends in one register write. -/
theorem movesFillRegisters : Obligations.MovesFillRegisters := by
  intro s rs rd imm imm8 cd sz msz
  refine ⟨s.assign_wrote rd _ 2, s.assign_wrote rd _ 3, fun v => s.assign_wrote rd _ _, s.assign_wrote rd _ 2,
    s.assign_wrote rd _ 2, fun v => s.assignIf_wrote s.psw.z rd _ _, fun v => ?_, ?_, xchg_registers s rs rd⟩
  · have hwrote := s.assignIf_wrote (!s.psw.z) rd v.value (3 + v.len)
    simp only [Bool.not_eq_true', ← Bool.not_eq_true, ite_not] at hwrote
    exact hwrote
  · rw [← bitWord_eq_ite]
    exact s.assign_wrote rd _ 3

/-! ### Extensions as numbers -/

theorem signExtend_byte_toInt (v : Word) : (Size.b.signExtend v).toInt = (v.toInt + 2 ^ 7) % 2 ^ 8 - 2 ^ 7 := by
  have hlow := v.extractLsb'_toNat 0 8
  rw [Size.signExtend, BitVec.toInt_signExtend_of_le (by decide)]
  simp only [BitVec.toInt_eq_toNat_cond, Nat.shiftRight_zero] at hlow ⊢
  omega

theorem signExtend_word_toInt (v : Word) : (Size.w.signExtend v).toInt = (v.toInt + 2 ^ 15) % 2 ^ 16 - 2 ^ 15 := by
  have hlow := v.extractLsb'_toNat 0 16
  rw [Size.signExtend, BitVec.toInt_signExtend_of_le (by decide)]
  simp only [BitVec.toInt_eq_toNat_cond, Nat.shiftRight_zero] at hlow ⊢
  omega

/-- Settles O38: each addressing mode is a load into one register; then the extensions. -/
theorem loadsExtendIntoRegisters : Obligations.LoadsExtendIntoRegisters := by
  intro s r r' rd low low' d d5 sz msz v
  exact ⟨s.load_wrote _ sz sz.signExtend rd _, s.load_wrote _ sz sz.signExtend (lowReg low') 2,
    s.load_wrote _ sz sz.signExtend rd 3, s.load_wrote _ msz.size id rd _,
    s.load_wrote _ msz.size id (lowReg low') 2, s.load_wrote _ msz.size id rd 3,
    signExtend_byte_toInt v, signExtend_word_toInt v, rfl, zeroExtend_toNat .b v, zeroExtend_toNat .w v, rfl,
    fun _ => BitVec.toInt_signExtend_of_le (by decide), fun _ => BitVec.toInt_signExtend_of_le (by decide),
    fun _ => BitVec.toInt_signExtend_of_le (by decide), rfl⟩

/-! ### Stores -/

/-- XCHG with memory: rd takes the extended value read, its low bytes take the place of those read (R395). -/
theorem State.exchange_stored (s : State) (a : Word) (sz : Size) (ext : Word → Word) (rd : Reg) (n : Nat)
    (hr : s.Readable a sz.bytes) (hw : s.Writable a sz.bytes) (hm : Memory.wf s.mem = true) :
    Reaches (s.exchange a sz ext rd n) fun t =>
      t.reg rd = ext (s.peek a sz) ∧ Stored [rd] a sz (s.reg rd) n s t := by
  refine ⟨_, (s.load_eq a sz _ hr).trans (s.store_eq a sz _ _ hw), State.reg_setReg_same _ rd _, ?_, ?_, ?_⟩
  · rw [State.peek_advance, State.peek_setReg, s.peek_poke_same a sz _ hm]
  · simp [State.after]
  · exact ((FrameStore.poke [rd] s a sz _).setReg (List.mem_singleton.2 rfl) _).advance n

/-- Settles O39: each form stores once; a source in memory is read before. -/
theorem storesWriteOnlyTheirBytes : Obligations.StoresWriteOnlyTheirBytes := by
  intro s r r' rs low low' d d' d5 sz imm imm8 cd a mx hm
  have stores (v : Word) (n : Nat) (hw : s.Writable a sz.bytes) :
      Reaches (s.storeTo a sz v n) (Stored [] a sz v n s) := s.storeTo_stored a sz v n hw hm
  refine ⟨fun hw => ⟨?_, ?_, ?_, ?_⟩, fun hr hw => s.exchange_stored _ .b id rs _ hr hw hm,
    fun hr hw => s.exchange_stored _ mx.size mx.extend rs _ hr hw hm⟩
  · rintro rfl
    rw [← bitWord_eq_ite]
    exact ⟨stores _ _ hw, stores _ _ hw, stores _ _ hw⟩
  · rintro rfl
    exact ⟨stores _ 2 hw, stores _ 3 hw⟩
  · rintro rfl
    exact stores _ 3 hw
  · rintro rfl hr
    rw [Completes, exec_movMemMem, execMovMemMem, s.load_eq _ sz _ hr]
    exact stores _ _ hw

/-! ### Reversed bytes -/

/-- Four bytes of a word put together in another order. -/
theorem getLsbD_rearranged (v : Word) (k3 k2 k1 k0 : Nat) {r : Word}
    (hr : r = v.extractLsb' k3 8 ++ v.extractLsb' k2 8 ++ v.extractLsb' k1 8 ++ v.extractLsb' k0 8) {j : Nat}
    (hj : j < 8) :
    r.getLsbD (24 + j) = v.getLsbD (k3 + j) ∧ r.getLsbD (16 + j) = v.getLsbD (k2 + j) ∧
      r.getLsbD (8 + j) = v.getLsbD (k1 + j) ∧ r.getLsbD j = v.getLsbD (k0 + j) := by
  simp only [hr, BitVec.getLsbD_append, BitVec.getLsbD_extractLsb']
  interval_cases j <;> simp

/-- Settles O41: the encoding by the round trip of the decoder, the bits by their bytes. -/
theorem byteReversalsReorderBytes : Obligations.ByteReversalsReorderBytes := by
  rintro s rs rd _ rfl
  refine ⟨decodeInvertsEncode s.product (.revl rs rd) [] rfl (installed_plain rfl rfl), ?_,
    decodeInvertsEncode s.product (.revw rs rd) [] rfl (installed_plain rfl rfl), ?_⟩
  · refine (s.assign_wrote rd (reverseLong (s.reg rs)) 3).imp fun t ht => ⟨_, ht, fun j hj => ?_⟩
    simpa only [Nat.zero_add] using getLsbD_rearranged (r := reverseLong (s.reg rs)) _ 0 8 16 24 rfl hj
  · refine (s.assign_wrote rd (reverseWords (s.reg rs)) 3).imp fun t ht => ⟨_, ht, fun j hj => ?_⟩
    simpa only [Nat.zero_add] using getLsbD_rearranged (r := reverseWords (s.reg rs)) _ 16 24 0 8 rfl hj

end Sys2Proof.Machine
end

section
/-! The stack: one longword pushed and popped, and a register range saved and restored (R384 to R389). -/

namespace Sys2Proof.Machine

/-! ### PUSH and PUSHC -/

/-- The low bytes laid over a free value are those of the value pushed (R387). -/
theorem zeroExtend_overlay (sz : Size) (low high : Word) :
    sz.zeroExtend (sz.overlay low high) = sz.zeroExtend low := by
  cases sz with
  | b => exact congrArg (BitVec.setWidth 32) BitVec.extractLsb'_append_eq_right
  | w => exact congrArg (BitVec.setWidth 32) BitVec.extractLsb'_append_eq_right
  | l => rfl

/-- A push of `.B` or `.W` draws the free value of the upper bytes. -/
theorem State.pushSized_pushed (s : State) (sz : Size) (v : Word) (n : Nat) (h : s.Writable (s.reg 0 - 4) 4)
    (hm : Memory.wf s.mem = true) : Reaches (s.pushSized sz v n) (Pushed sz v (s.after n) s) := by
  have hframe := s.pushed_frame (sz.overlay v s.drawWord.1)
  refine ⟨_, s.push_eq _ _ h, ?_, State.reg_setReg_same _ 0 _, by simp [State.after, State.pushed], ?_⟩
  · rw [State.peek_advance]
    exact (congrArg sz.zeroExtend (s.pushed_peek _ hm)).trans (zeroExtend_overlay sz v _)
  · exact ⟨⟨hframe.regs.regs, hframe.regs.otherSp⟩, hframe.psw, (hframe.control.withFree _ _).goto _, hframe.fpsw,
      hframe.acc, hframe.memory⟩

/-! ### POP and POPC -/

/-- `ctrl_write`, field by field: most registers take the value in supervisor mode only (R541). -/
theorem State.ctrlWrite_eq (s : State) (cr : CReg) (v : Word) :
    s.ctrlWrite cr v = { s with
      psw := if cr = .psw then s.psw.write s.product.ipl3 v else s.psw
      fpsw := if cr = .fpsw ∧ s.product.hasFpu = true then s.fpsw.write v else s.fpsw
      usp := if cr = .usp then v else s.usp
      isp := if cr = .isp ∧ s.psw.pm = false then v else s.isp
      bpsw := if cr = .bpsw ∧ s.psw.pm = false then Psw.ofWord s.product.ipl3 v else s.bpsw
      bpc := if cr = .bpc ∧ s.psw.pm = false then v else s.bpc
      fintv := if cr = .fintv ∧ s.psw.pm = false then v else s.fintv
      intb := if cr = .intb ∧ s.psw.pm = false then v else s.intb } := by
  cases cr with
  | psw | pc | usp => simp [State.ctrlWrite, State.withPsw]
  | fpsw => cases h : s.product.hasFpu <;> simp [State.ctrlWrite, h]
  | bpsw | bpc | isp | fintv | intb =>
    cases h : s.psw.pm <;> simp [State.ctrlWrite, State.supervisorOnly, h]

theorem State.ctrlWrite_written (s : State) (cr : CReg) (v : Word) (n : Nat) :
    CtrlWritten cr v n s ((s.ctrlWrite cr v).advance n) := by
  rw [State.ctrlWrite_eq]
  exact ⟨rfl, rfl, rfl, rfl, rfl, rfl, rfl, rfl, rfl, rfl, rfl, rfl, rfl, rfl, rfl, rfl, rfl, fun _ => rfl⟩

theorem State.popWord_eq (s : State) (k : Word → State → Out) (h : s.Readable (s.reg 0) 4) :
    s.popWord k = k (s.peek (s.reg 0) .l) (s.setReg 0 (s.reg 0 + 4)) := s.load_eq (s.reg 0) .l _ h

/-- POP of R0 leaves it the longword read: the write of the destination is last (R384). -/
theorem pop_loads (s : State) (rd : Reg) (h : s.Readable (s.reg 0) 4) :
    Completes (.pop rd) s fun t => t.reg rd = s.peek (s.reg 0) .l ∧ (rd ≠ 0 → t.reg 0 = s.reg 0 + 4) ∧
      t.pc = s.after 2 ∧ Frame [0, rd] [] s t := by
  refine ⟨_, s.popWord_eq (fun v t => t.assign rd v 2) h, State.reg_setReg_same _ rd _, fun hne => ?_,
    by simp [State.after], ?_⟩
  · rw [State.reg_advance, State.reg_setReg_ne _ _ hne.symm]
    exact s.reg_setReg_same 0 _
  · exact (((Frame.refl [0, rd] [] s).setReg (by simp) _).setReg (by simp) _).advance 2

/-- Settles O42: PUSH from memory reads its operand first; POPC is a write of the control register from the state whose
stack pointer has risen. -/
theorem pushAndPopMoveOneLongword : Obligations.PushAndPopMoveOneLongword := by
  intro s rs rd d sz cr hm
  refine ⟨fun hw => ⟨s.pushSized_pushed sz _ 2 hw hm, ?_, fun hr => ?_⟩,
    fun hr => ⟨pop_loads s rd hr, fun _ => ⟨_, exec_popc_eq hr cr, ?_⟩⟩⟩
  · rw [Completes, exec_pushc, execPushc]
    exact s.push_pushed _ (s.after 2) _ hw hm (by simp [State.advance, State.after, State.pushed])
  · rw [Completes, exec_pushMem, execPushMem, s.load_eq _ sz _ hr]
    exact s.pushSized_pushed sz _ _ hw hm
  · exact (s.setReg 0 (s.reg 0 + 4)).ctrlWrite_written cr _ 2

/-! ### PUSHM and POPM -/

/-- Registers written one after the other from a function. -/
theorem State.foldl_setReg (s : State) (rs : List Reg) (vs : Reg → Word) :
    rs.foldl (fun x r => x.setReg r (vs r)) s = s.setRegs rs (rs.map vs) := by
  induction rs generalizing s with
  | nil => rfl
  | cons r rs ih => exact ih (s.setReg r (vs r))

/-- Settles O44. The work between changes registers of the range alone: POPM starts from the stack pointer and the
memory that PUSHM left. -/
theorem popmRestoresWhatPushmSaved : Obligations.PopmRestoresWhatPushmSaved := by
  intro s t first last vs hm h0 hlt hw ht u hu hr
  obtain ⟨t', ht', hsp, -, hsaved, hpush⟩ := pushm_completes s hm hlt (regRange_length_of_le hlt.le) hw
  obtain rfl : t = t' := by simpa [ht] using ht'
  have hwork : FrameStore (regRange first last) 0 0 t u := by
    rw [hu, State.foldl_setReg]
    exact (FrameStore.refl _ _ _ t).setRegs (List.Subset.refl _) _
  have hkept {r : Reg} (hr : r < first ∨ last < r) : u.reg r = t.reg r := by
    refine hwork.regs.regs r fun hmem => ?_
    obtain ⟨hf, hl⟩ := mem_regRange.1 hmem
    exact hr.elim (not_lt.2 hf) (not_lt.2 hl)
  have husp : u.reg 0 = s.reg 0 - 4 * BitVec.ofNat 32 (last.val - first.val + 1) := (hkept (.inl h0)).trans hsp
  rw [regRange_length_of_le hlt.le] at hr
  refine ⟨_, u.popm_eq hlt (regRange_length_of_le hlt.le) hr, fun r => ?_⟩
  by_cases hrange : first ≤ r ∧ r ≤ last
  · obtain ⟨hf, hl⟩ := hrange
    have hfr : first.val ≤ r.val := hf
    have hrl : r.val ≤ last.val := hl
    rw [u.reload_reg _ _ _ (regRange_length_of_le hlt.le).le hf hl, husp, sub_longs_add _ (by omega),
      show last.val - first.val + 1 - (r.val - first.val) = last.val - r.val + 1 by omega, ← hsaved r hf hl]
    exact State.peek_congr hwork.control.product fun _ _ => hwork.sameMemory _
  · have hout : r < first ∨ last < r := by simpa [imp_iff_not_or] using hrange
    by_cases hr0 : r = 0
    · rw [hr0, u.reload_sp _ h0, husp, BitVec.sub_add_cancel]
    · obtain ⟨hrest, -⟩ := u.reload_rest _ first last _ _ rfl
      rw [hrest r hr0 hout, hkept hout]
      exact hpush.regs.regs r (by simpa using hr0)

end Sys2Proof.Machine
end

section
/-! A data access that faults cancels its instruction: every access is checked before anything is written (R380, R604,
R612, D18). -/

namespace Sys2Proof.Machine

/-! ### Operations that a fault cancels -/

theorem State.loadAll_fault (s : State) {as : List Word} {a : Word} (k : List Word → Out) (ha : a ∈ as)
    (h : s.faultAt a 4 .read = true) : s.loadAll as k = s.raise .access :=
  if_pos (List.any_eq_true.2 ⟨a, ha, h⟩)

theorem State.storeAll_fault (s : State) {ws : List (Word × Word)} {w : Word × Word} (k : State → Out) (hw : w ∈ ws)
    (h : s.faultAt w.1 4 .write = true) : s.storeAll ws k = s.raise .access :=
  if_pos (List.any_eq_true.2 ⟨w, hw, h⟩)

/-! ### Checks -/

section Checks

variable {s : State} {i : Instr} {c c' : Prop} [Decidable c] [Decidable c'] {o : Out}

theorem accessException_of_raise (hm : Memory.wf s.mem = true) (h : exec i s = s.raise .access) :
    AccessException i s := by
  rw [AccessException, h]
  exact s.enter_entersAt .access s.pc hm

/-- The instruction's first check fails. -/
theorem accessException_of_first (hm : Memory.wf s.mem = true) (hc : c)
    (h : exec i s = if c then s.raise .access else o) : AccessException i s :=
  accessException_of_raise hm (h.trans (if_pos hc))

/-- The instruction's second check fails: whether the first does too, the exception is the same (D18). -/
theorem accessException_of_second (hm : Memory.wf s.mem = true) (hc : c)
    (h : exec i s = if c' then s.raise .access else if c then s.raise .access else o) : AccessException i s :=
  accessException_of_raise hm (by rw [h, if_pos hc, ite_self])

/-- One of the instruction's two checks fails. -/
theorem accessException_of_either (hm : Memory.wf s.mem = true) (hc : c' ∨ c)
    (h : exec i s = if c' then s.raise .access else if c then s.raise .access else o) : AccessException i s :=
  hc.elim (fun hc => accessException_of_first hm hc h) fun hc => accessException_of_second hm hc h

end Checks

/-! ### Register ranges -/

theorem popm_fault {s : State} {first last : Reg} (hlt : first < last) {k : Nat} (hk : k ≤ last.val - first.val)
    (hf : s.faultAt (s.reg 0 + 4 * BitVec.ofNat 32 k) 4 .read = true) :
    exec (.popm first last) s = s.raise .access := by
  have hlen := regRange_length_of_le hlt.le
  exact (if_pos hlt).trans (s.loadAll_fault _ (mem_longwords.2 ⟨k, by omega, rfl⟩) hf)

theorem pushm_fault {s : State} {first last : Reg} (hlt : first < last) {k : Nat} (hk : k ≤ last.val - first.val)
    (hf : s.faultAt (s.reg 0 - 4 * BitVec.ofNat 32 (k + 1)) 4 .write = true) :
    exec (.pushm first last) s = s.raise .access := by
  have hlen := regRange_length_of_le hlt.le
  have hmem := s.mem_saved (s.bottom (regRange first last).length) (regRange first last)
    ((regRange first last).length - (k + 1)) (by omega)
  rw [s.bottom_add (Nat.sub_le ..), Nat.sub_sub_self (by omega)] at hmem
  exact (if_pos hlt).trans (s.storeAll_fault _ hmem hf)

theorem rtsdRange_fault {s : State} {imm : BitVec 8} {first last : Reg} (hle : first ≤ last)
    (hfit : last.val - first.val < imm.toNat) {k : Nat} (hk : k ≤ last.val - first.val + 1)
    (hf : s.faultAt (s.reg 0 + 4 * imm.setWidth 32 - 4 * BitVec.ofNat 32 k) 4 .read = true) :
    exec (.rtsdRange imm first last) s = s.raise .access := by
  have hlen := regRange_length_of_le hle
  have hmem : s.reg 0 + frameSize imm - 4 * BitVec.ofNat 32 k ∈
      longwords (s.reg 0 + frameSize imm - 4 * BitVec.ofNat 32 (regRange first last).length)
        ((regRange first last).length + 1) := by
    refine mem_longwords.2 ⟨(regRange first last).length - k, by omega, ?_⟩
    rw [sub_longs_add _ (Nat.sub_le ..), Nat.sub_sub_self (by omega)]
  exact (if_pos ⟨hle, by omega⟩).trans (s.loadAll_fault _ hmem hf)

theorem rte_fault {s : State} (hpm : s.psw.pm = false)
    (hf : s.faultAt (s.reg 0) 4 .read = true ∨ s.faultAt (s.reg 0 + 4) 4 .read = true) :
    exec .rte s = s.raise .access := by
  refine (if_neg (by simp [hpm])).trans ?_
  rcases hf with hf | hf
  · exact s.loadAll_fault (as := [s.reg 0, s.reg 0 + 4]) _ (by simp) hf
  · exact s.loadAll_fault (as := [s.reg 0, s.reg 0 + 4]) _ (by simp) hf

/-! ### The statement -/

/-- Settles O16: in each form the access that faults is the first or the second one checked; a range checks its
longwords together. -/
theorem faultingAccessesCancelTheInstruction : Obligations.FaultingAccessesCancelTheInstruction := by
  intro s r r' rd low low' d d' d5 sz msz mx k imm imm3 imm8 d16 d24 cd cr mode hm
  refine ⟨fun hf => ⟨fun i hi => ?byteSources, fun hfpu => ?byteFpu⟩, fun hf i hi => ?byteUpdates,
    fun hf => ⟨fun i hi => ?extendedSources, fun hfpu => ?extendedFpu⟩,
    fun hf => accessException_of_second hm hf rfl, fun hf => ⟨fun i hi => ?longSources, fun hfpu i hi => ?longFpu⟩,
    fun hf i hi => ?loads,
    fun hf => accessException_of_first hm hf rfl, fun hf => accessException_of_first hm hf rfl,
    fun hf => accessException_of_first hm hf rfl, fun hf => accessException_of_first hm hf rfl,
    fun hf => accessException_of_first hm hf rfl, fun hf => accessException_of_first hm hf rfl,
    fun hf => accessException_of_first hm hf rfl, fun hf i hi => ?stores,
    fun hf => accessException_of_second hm hf rfl,
    fun hf => ⟨accessException_of_first hm hf rfl, accessException_of_first hm hf rfl⟩,
    fun hf => accessException_of_first hm hf rfl, fun hf => accessException_of_first hm hf rfl,
    fun hf i hi => ?pushes,
    fun hlt hk => ⟨fun hf => accessException_of_raise hm (popm_fault hlt hk hf),
      fun hf => accessException_of_raise hm (pushm_fault hlt hk hf)⟩,
    fun hf => accessException_of_first hm hf rfl,
    fun hle hfit hk hf => accessException_of_raise hm (rtsdRange_fault hle hfit hk hf), fun hf i hi => ?pops,
    fun hpm hf => accessException_of_raise hm (rte_fault hpm hf),
    fun h3 hf => ?searches, fun h3 hf => ?sstr, fun h3 hf => ?scmpu, fun h3 hf => ?moves, fun h3 hgo hf => ?rmpa⟩
  case byteSources | extendedSources | longSources | loads | stores | pops =>
    fin_cases hi <;> exact accessException_of_first hm hf rfl
  case byteFpu | extendedFpu => exact accessException_of_first hm hf (State.withFpu_eq hfpu _)
  case longFpu => fin_cases hi <;> exact accessException_of_first hm hf (State.withFpu_eq hfpu _)
  case byteUpdates => fin_cases hi <;> exact accessException_of_second hm hf rfl
  case pushes =>
    rcases List.mem_cons.1 hi with rfl | hi
    · exact accessException_of_first hm hf rfl
    rcases List.mem_cons.1 hi with rfl | hi
    · exact accessException_of_second hm hf rfl -- PUSH from memory loads before it stores
    · fin_cases hi <;> exact accessException_of_first hm hf rfl
  case searches =>
    exact ⟨accessException_of_first hm hf (s.unlessDone_eq _ h3),
      accessException_of_first hm hf (s.unlessDone_eq _ h3)⟩
  case sstr => exact accessException_of_first hm hf (s.unlessDone_eq _ h3)
  case scmpu => exact accessException_of_either hm hf (s.unlessDone_eq _ h3)
  case moves =>
    exact ⟨fun ho => ⟨accessException_of_either hm hf (s.unlessDone_moves _ h3 ho),
      accessException_of_either hm hf (s.unlessDone_moves _ h3 ho)⟩,
      fun ho => accessException_of_either hm hf (s.unlessDone_moves _ h3 ho)⟩
  case rmpa =>
    exact accessException_of_either hm hf
      (((s.markRmpa none).unlessDone_eq _ h3).trans (if_pos (by simpa using hgo)))

end Sys2Proof.Machine
end

section
/-! What the condition codes say of the flags and of a comparison (R440, R206), and the calls (R443, R445). -/

namespace Sys2Proof.Machine

/-! ### Condition codes by their flags -/

section Holds

variable (p : Psw)

theorem Psw.holds_ne : p.holds .ne = true ↔ p.z = false := by simp [Psw.holds]

theorem Psw.holds_ltu : p.holds .ltu = true ↔ p.c = false := by simp [Psw.holds]

theorem Psw.holds_gtu : p.holds .gtu = true ↔ p.c = true ∧ p.z = false := by simp [Psw.holds]

theorem Psw.holds_leu : p.holds .leu = true ↔ p.c = false ∨ p.z = true := by
  cases hc : p.c <;> simp [Psw.holds, hc]

theorem Psw.holds_pz : p.holds .pz = true ↔ p.s = false := by simp [Psw.holds]

theorem Psw.holds_ge : p.holds .ge = true ↔ p.s = p.o := by simp [Psw.holds]

theorem Psw.holds_lt : p.holds .lt = true ↔ p.s ≠ p.o := by simp [Psw.holds]

theorem Psw.holds_gt : p.holds .gt = true ↔ p.s = p.o ∧ p.z = false := by simp [Psw.holds]

theorem Psw.holds_le : p.holds .le = true ↔ p.s ≠ p.o ∨ p.z = true := by simp [Psw.holds]

theorem Psw.holds_no : p.holds .no = true ↔ p.o = false := by simp [Psw.holds]

end Holds

/-! ### The flags of a difference as comparisons -/

namespace DifferenceFlags

variable {a b r : Word} {t : State}

/-- The difference modulo 2^32 is 0 only of equal words. -/
theorem z_iff (h : DifferenceFlags a b false r t) : t.psw.z = true ↔ a = b := by
  have hvalue := h.value
  rw [h.zs.z, ← BitVec.toNat_inj]
  simp only [Bool.toNat_false] at hvalue
  omega

theorem z_eq_false_iff (h : DifferenceFlags a b false r t) : t.psw.z = false ↔ a ≠ b := by
  rw [← Bool.not_eq_true, h.z_iff]

theorem c_iff (h : DifferenceFlags a b false r t) : t.psw.c = true ↔ b.toNat ≤ a.toNat := h.carry

theorem c_eq_false_iff (h : DifferenceFlags a b false r t) : t.psw.c = false ↔ a.toNat < b.toNat := by
  rw [← Bool.not_eq_true, h.c_iff, Nat.not_le]

/-- S is the sign of the exact difference, inverted where that overflows. -/
theorem s_ne_o_iff (h : DifferenceFlags a b false r t) : t.psw.s ≠ t.psw.o ↔ a.toInt < b.toInt := by
  have hvalue := h.value
  have hoverflow := h.overflow
  have hsign := h.zs.s
  rw [ne_eq, Bool.eq_iff_iff, hsign, hoverflow]
  simp only [Bool.toNat_false, Nat.cast_zero, sub_zero, BitVec.toInt_eq_toNat_cond] at hvalue ⊢
  omega

theorem s_eq_o_iff (h : DifferenceFlags a b false r t) : t.psw.s = t.psw.o ↔ b.toInt ≤ a.toInt := by
  rw [← not_iff_not, ← ne_eq, h.s_ne_o_iff, Int.not_le]

end DifferenceFlags

/-- Settles O45: a comparison is read off the flags of the difference, and equality is that of both readings of a
word as a number. -/
theorem conditionsAfterCompare : Obligations.ConditionsAfterCompare := by
  refine ⟨fun p => ⟨Iff.rfl, p.holds_ne, Iff.rfl, p.holds_ltu, p.holds_gtu, p.holds_leu, p.holds_pz, Iff.rfl,
    p.holds_ge, p.holds_lt, p.holds_gt, p.holds_le, Iff.rfl, p.holds_no⟩, ?_⟩
  rintro s t src rs2 v hv ht a rfl
  rw [exec_cmpRm, execCmpRm, State.withRm_eq hv] at ht
  obtain ⟨⟨r, hflags⟩, -⟩ := (s.flagsOnly_compared (s.reg rs2) v _).of_next ht
  refine ⟨hflags.z_iff, t.psw.holds_ne.trans hflags.z_eq_false_iff, hflags.c_iff,
    t.psw.holds_ltu.trans hflags.c_eq_false_iff, ?gtu, ?leu, t.psw.holds_ge.trans hflags.s_eq_o_iff,
    t.psw.holds_lt.trans hflags.s_ne_o_iff, ?gt, ?le⟩
  case gtu => rw [Psw.holds_gtu, hflags.c_iff, hflags.z_eq_false_iff, ne_eq, ← BitVec.toNat_inj]; omega
  case leu => rw [Psw.holds_leu, hflags.c_eq_false_iff, hflags.z_iff, ← BitVec.toNat_inj]; omega
  case gt => rw [Psw.holds_gt, hflags.s_eq_o_iff, hflags.z_eq_false_iff, ne_eq, ← BitVec.toInt_inj]; omega
  case le => rw [Psw.holds_le, hflags.s_ne_o_iff, hflags.z_iff, ← BitVec.toInt_inj]; omega

/-! ### Calls -/

/-- A call pushes the address of the next instruction and goes to the target, computed before the push (D19). -/
theorem State.call_pushed (s : State) (target : Word) (n : Nat) (h : s.Writable (s.reg 0 - 4) 4)
    (hm : Memory.wf s.mem = true) : Reaches (s.call target n) (Pushed .l (s.after n) target s) :=
  s.push_pushed _ _ _ h hm rfl

/-- Settles O47. -/
theorem callsPushTheReturnAddress : Obligations.CallsPushTheReturnAddress := by
  intro s d16 d24 rs hm h
  exact ⟨s.call_pushed _ 3 h hm, s.call_pushed _ 4 h hm, s.call_pushed _ 2 h hm, s.call_pushed _ 2 h hm⟩

end Sys2Proof.Machine
end

section
/-! The bit manipulation instructions (R470 to R477): what the operations on one bit do to a value, and what a register,
a byte of memory and the flags hold after them. -/

namespace Sys2Proof.Machine

/-! ### Bit numbers -/

/-- A register bit number for a register is read as a shift count is: modulo 32 (R470). -/
theorem State.wordBit_eq (s : State) (r : Reg) : s.wordBit r = (s.reg r).toNat % 32 := s.shiftCount_eq r

theorem State.byteBit_eq (s : State) (r : Reg) : s.byteBit r = (s.reg r).toNat % 8 := by
  rw [State.byteBit, BitVec.extractLsb'_toNat, Nat.shiftRight_zero]

/-! ### One bit of a value -/

theorem getLsbD_bitMask {j : Nat} (hj : j < 32) (k : Nat) : (bitMask k).getLsbD j = decide (j = k) := by
  have hmask : bitMask k = BitVec.twoPow 32 k := rfl
  rw [hmask, BitVec.getLsbD_twoPow]
  by_cases h : j = k
  · simp [← h, hj]
  · simp [h, Ne.symm h]

theorem bitIs_bitSet (k : Nat) (v : Word) : BitIs (bitSet k v) v k true := fun j hj => by
  rw [bitSet, BitVec.getLsbD_or, getLsbD_bitMask hj]
  by_cases h : j = k <;> simp [h]

theorem bitIs_bitClear (k : Nat) (v : Word) : BitIs (bitClear k v) v k false := fun j hj => by
  rw [bitClear, BitVec.getLsbD_and, BitVec.getLsbD_not, getLsbD_bitMask hj]
  by_cases h : j = k <;> simp [h, hj]

theorem bitIs_bitFlip (k : Nat) (v : Word) : BitIs (bitFlip k v) v k (!v.getLsbD k) := fun j hj => by
  rw [bitFlip, BitVec.getLsbD_xor, getLsbD_bitMask hj]
  by_cases h : j = k <;> simp [h]

theorem bitIs_bitMove (c : Bool) (k : Nat) (v : Word) : BitIs (bitMove c k v) v k c := by
  cases c with
  | false => exact bitIs_bitClear k v
  | true => exact bitIs_bitSet k v

/-! ### Bits of a register -/

/-- A register written with one bit changed. -/
theorem State.assign_wroteBit (s : State) {rd : Reg} {r : Word} {k : Nat} {v : Bool} (h : BitIs r (s.reg rd) k v)
    (n : Nat) : Reaches (s.assign rd r n) (WroteBit rd k v n s) :=
  (s.assign_wrote rd r n).imp fun _ hwrote => ⟨r, h, hwrote⟩

/-! ### Bits of a byte of memory -/

theorem State.getLsbD_peek_byte (s : State) (a : Word) (j : Nat) :
    (s.peek a .b).getLsbD j = (s.byteAt a).getLsbD j := BitVec.getLsbD_setWidth' (by decide) _ j

/-- The byte stored is the low byte of the changed value: its bits are those of the value (R471). -/
theorem Stored.storedBit {s t : State} {a r : Word} {k n : Nat} {v : Bool} (ht : Stored [] a .b r n s t)
    (h : BitIs r (s.peek a .b) k v) : StoredBit a k v n s t where
  value j hj := calc
    (t.byteAt a).getLsbD j = (t.peek a .b).getLsbD j := (t.getLsbD_peek_byte a j).symm
    _ = r.getLsbD j := by simp [ht.value, Size.zeroExtend, hj, show j < 32 by omega]
    _ = if j = k then v else (s.byteAt a).getLsbD j := by rw [h j (by omega), s.getLsbD_peek_byte]
  pc := ht.pc
  frame := ht.frame

/-- A byte read, changed in one bit and written back. -/
theorem State.modifyByte_storedBit (s : State) {a : Word} {f : Word → Word} {k : Nat} {v : Bool} (n : Nat)
    (h : BitIs (f (s.peek a .b)) (s.peek a .b) k v) (hr : s.Readable a 1) (hw : s.Writable a 1)
    (hm : Memory.wf s.mem = true) : Reaches (s.modifyByte a f n) (StoredBit a k v n s) := by
  rw [State.modifyByte, s.load_eq a .b _ hr]
  exact (s.storeTo_stored a .b _ n hw hm).imp fun _ hstored => hstored.storedBit h

/-! ### Bits tested -/

theorem SamePsw.of_setBitTest (s : State) (v : Bool) : SamePsw [.c, .z] s (s.withPsw (s.psw.setBitTest v)) :=
  ⟨fun
    | .s, _ | .o, _ | .i, _ | .u, _ => rfl
    | .c, hb | .z, hb => absurd (by decide) hb, rfl, rfl⟩

theorem State.flagsOnly_testedBit (s : State) (v : Bool) (n : Nat) :
    Reaches (s.flagsOnly (s.psw.setBitTest v) n) (TestedBit v n s) :=
  (s.flagsOnly_flagged n (.of_setBitTest s v) (by decide)).imp fun _ ⟨hpsw, hflagged⟩ =>
    ⟨congrArg Psw.c hpsw, congrArg Psw.z hpsw, hflagged⟩

theorem State.testByte_testedBit (s : State) {a : Word} (k n : Nat) (hr : s.Readable a 1) :
    Reaches (s.testByte a k n) (TestedBit ((s.byteAt a).getLsbD k) n s) := by
  rw [State.testByte, s.load_eq a .b _ hr, s.getLsbD_peek_byte]
  exact s.flagsOnly_testedBit _ n

/-! ### The statement -/

/-- Settles O49: each form is one bit operation on a register, on a byte of memory, or on the flags. -/
theorem bitsChangeAlone : Obligations.BitsChangeAlone := by
  intro s rs rd imm cd k r d imm3 a hm
  constructor
  · intro hk
    obtain rfl : k = s.wordBit rs := hk.trans (s.wordBit_eq rs).symm
    exact ⟨s.assign_wroteBit (bitIs_bitSet _ _) 2, s.assign_wroteBit (bitIs_bitSet _ _) 3,
      s.assign_wroteBit (bitIs_bitClear _ _) 2, s.assign_wroteBit (bitIs_bitClear _ _) 3,
      s.assign_wroteBit (bitIs_bitFlip _ _) 3, s.assign_wroteBit (bitIs_bitFlip _ _) 3,
      s.assign_wroteBit (bitIs_bitMove _ _ _) 3, s.flagsOnly_testedBit _ 2, s.flagsOnly_testedBit _ 3⟩
  · rintro hk rfl hr
    obtain rfl : k = s.byteBit rs := hk.trans (s.byteBit_eq rs).symm
    refine ⟨fun hw => ?_, s.testByte_testedBit _ _ hr, s.testByte_testedBit _ _ hr⟩
    have modifies {f : Word → Word} {j : Nat} {v : Bool} (n : Nat)
        (h : BitIs (f (s.peek (s.ea r d .b) .b)) (s.peek (s.ea r d .b) .b) j v) :
        Reaches (s.modifyByte (s.ea r d .b) f n) (StoredBit (s.ea r d .b) j v n s) :=
      s.modifyByte_storedBit n h hr hw hm
    simp only [← s.getLsbD_peek_byte]
    exact ⟨modifies _ (bitIs_bitSet _ _), modifies _ (bitIs_bitSet _ _), modifies _ (bitIs_bitClear _ _),
      modifies _ (bitIs_bitClear _ _), modifies _ (bitIs_bitFlip _ _), modifies _ (bitIs_bitFlip _ _),
      modifies _ (bitIs_bitMove _ _ _)⟩

end Sys2Proof.Machine
end

section
/-! One iteration of the string comparisons and searches: the flags of one element, the pointers and the PC (R503, R508,
R509). -/

namespace Sys2Proof.Machine

/-! ### The flags of a comparison -/

theorem Psw.setCompare_c (p : Psw) (a b : Word) : (p.setCompare a b).c = true ↔ b.toNat ≤ a.toNat :=
  decide_eq_true_iff

theorem Psw.setCompare_z (p : Psw) (a b : Word) : (p.setCompare a b).z = true ↔ a = b := beq_iff_eq

theorem SamePsw.of_setCompare (s : State) (a b : Word) : SamePsw [.c, .z] s (s.withPsw (s.psw.setCompare a b)) :=
  ⟨fun
    | .s, _ | .o, _ | .i, _ | .u, _ => rfl
    | .c, hb | .z, hb => absurd (by decide) hb, rfl, rfl⟩

/-- Bytes read as words are equal where the bytes are. -/
theorem State.peek_byte_inj (s : State) (a b : Word) : s.peek a .b = s.peek b .b ↔ s.byteAt a = s.byteAt b := by
  rw [← BitVec.toNat_inj, ← BitVec.toNat_inj (x := s.byteAt a), s.peek_byte_toNat, s.peek_byte_toNat]

theorem State.peek_byte_eq_zero (s : State) (a : Word) : s.peek a .b = 0 ↔ s.byteAt a = 0 := by
  rw [← BitVec.toNat_inj, ← BitVec.toNat_inj (x := s.byteAt a), s.peek_byte_toNat]
  rfl

/-! ### The end of an iteration -/

@[simp] theorem State.setPointers_psw (s : State) (r1 r2 r3 : Word) : (s.setPointers r1 r2 r3).psw = s.psw := by
  simp [State.setPointers]

@[simp] theorem State.endIteration_psw (t : State) (last : Bool) : (t.endIteration last).psw = t.psw := by
  cases last <;> rfl

@[simp] theorem State.endAndClobber_psw (t : State) (last : Bool) : (t.endAndClobber last).psw = t.psw := by
  cases last <;> simp [State.endAndClobber]

@[simp] theorem State.reg_endAndClobber (t : State) (last : Bool) : (t.endAndClobber last).reg 3 = t.reg 3 := by
  cases last with
  | true =>
    obtain ⟨-, hcount, -⟩ := t.endAndClobber_last
    exact hcount
  | false => rfl

namespace Frame

variable {regs : List Reg} {bits : List PswBit} {s t : State}

theorem setPointers (h : Frame regs bits s t) (h1 : 1 ∈ regs) (h2 : 2 ∈ regs) (h3 : 3 ∈ regs) (r1 r2 r3 : Word) :
    Frame regs bits s (t.setPointers r1 r2 r3) := ((h.setReg h1 r1).setReg h2 r2).setReg h3 r3

theorem endIteration (h : Frame regs bits s t) (last : Bool) : Frame regs bits s (t.endIteration last) := by
  cases last with
  | true => exact h.advance 2
  | false => exact h

theorem endAndClobber (h : Frame regs bits s t) (h1 : 1 ∈ regs) (h2 : 2 ∈ regs) (last : Bool) :
    Frame regs bits s (t.endAndClobber last) := by
  cases last with
  | true => exact ((h.clobberReg h1).clobberReg h2).advance 2
  | false => exact h

end Frame

/-! ### SCMPU -/

/-- The state after one comparison of SCMPU, before the iteration ends (R503). -/
def State.comparedBytes (s : State) : State :=
  (s.withPsw (s.psw.setCompare (s.peek (s.reg 1) .b) (s.peek (s.reg 2) .b))).setPointers (s.reg 1 + 1) (s.reg 2 + 1)
    (s.reg 3 - 1)

/-- SCMPU ends with this comparison: the bytes differ, both are 0, or the count is used up (R503). -/
def State.comparisonEnds (s : State) : Bool :=
  s.peek (s.reg 1) .b != s.peek (s.reg 2) .b || s.peek (s.reg 1) .b == 0 || s.reg 3 - 1 == 0

theorem State.comparisonEnds_iff (s : State) : s.comparisonEnds = true ↔
    s.byteAt (s.reg 1) ≠ s.byteAt (s.reg 2) ∨ s.byteAt (s.reg 1) = 0 ∨ s.reg 3 = 1 := by
  rw [State.comparisonEnds, Bool.or_eq_true, Bool.or_eq_true, last_iff, bne_iff_ne, beq_iff_eq, Ne, s.peek_byte_inj,
    s.peek_byte_eq_zero, or_assoc]

theorem exec_scmpu_eq {s : State} (h3 : s.reg 3 ≠ 0) (hr1 : s.Readable (s.reg 1) 1) (hr2 : s.Readable (s.reg 2) 1) :
    exec .scmpu s = .next (s.comparedBytes.endAndClobber s.comparisonEnds) := by
  rw [exec_scmpu, execScmpu, s.unlessDone_eq _ h3, s.load_eq _ .b _ hr1, s.load_eq _ .b _ hr2]
  rfl

/-- One iteration of SCMPU, whose last one leaves R1 and R2 free (R503). -/
theorem scmpu_compares {s : State} (h3 : s.reg 3 ≠ 0) (hr1 : s.Readable (s.reg 1) 1) (hr2 : s.Readable (s.reg 2) 1) :
    Completes .scmpu s fun t =>
      (t.psw.c = true ↔ (s.byteAt (s.reg 2)).toNat ≤ (s.byteAt (s.reg 1)).toNat) ∧
      (t.psw.z = true ↔ s.byteAt (s.reg 1) = s.byteAt (s.reg 2)) ∧ t.reg 3 = s.reg 3 - 1 ∧
      (s.byteAt (s.reg 1) ≠ s.byteAt (s.reg 2) ∨ s.byteAt (s.reg 1) = 0 ∨ s.reg 3 = 1 → t.pc = s.pc + 2) ∧
      (s.byteAt (s.reg 1) = s.byteAt (s.reg 2) → s.byteAt (s.reg 1) ≠ 0 → s.reg 3 ≠ 1 →
        t.pc = s.pc ∧ t.reg 1 = s.reg 1 + 1 ∧ t.reg 2 = s.reg 2 + 1) ∧
      Frame [1, 2, 3] [.c, .z] s t := by
  obtain ⟨hreg1, hreg2, hreg3⟩ : s.comparedBytes.reg 1 = s.reg 1 + 1 ∧ s.comparedBytes.reg 2 = s.reg 2 + 1 ∧
    s.comparedBytes.reg 3 = s.reg 3 - 1 := State.reg_setPointers ..
  have hpc : s.comparedBytes.pc = s.pc := by simp [State.comparedBytes]
  have hpsw : (s.comparedBytes.endAndClobber s.comparisonEnds).psw =
      s.psw.setCompare (s.peek (s.reg 1) .b) (s.peek (s.reg 2) .b) := by simp [State.comparedBytes]
  have hframe : Frame [1, 2, 3] [.c, .z] s s.comparedBytes :=
    (Frame.withPsw (.of_setCompare s _ _) (by decide)).setPointers (by simp) (by simp) (by simp) _ _ _
  refine ⟨_, exec_scmpu_eq h3 hr1 hr2, ?_, ?_, ?_, fun hends => ?_, fun heq hne hgo => ?_,
    hframe.endAndClobber (by simp) (by simp) _⟩
  · rw [hpsw, Psw.setCompare_c, s.peek_byte_toNat, s.peek_byte_toNat]
  · rw [hpsw, Psw.setCompare_z, s.peek_byte_inj]
  · rw [State.reg_endAndClobber, hreg3]
  · obtain ⟨hend, -⟩ := s.comparedBytes.endAndClobber_last
    rw [s.comparisonEnds_iff.2 hends, hend, hpc]
  · have hgoes : s.comparisonEnds = false := by
      rw [← Bool.not_eq_true, s.comparisonEnds_iff]
      tauto
    rw [hgoes]
    exact ⟨hpc, hreg1, hreg2⟩

/-! ### SUNTIL and SWHILE -/

/-- The state with the flags of an element compared with R2 (R508, R509). -/
def State.comparedElement (s : State) (sz : Size) : State :=
  s.withPsw (s.psw.setCompare (s.peek (s.reg 1) sz) (s.reg 2))

/-- The state after one comparison of a search, before the iteration ends (R508, R509). -/
def State.searchedElement (s : State) (sz : Size) : State :=
  (s.comparedElement sz).setPointers (s.reg 1 + sz.word) (s.reg 2) (s.reg 3 - 1)

theorem State.searchElement_eq (s : State) (sz : Size) (stops : Word → Bool) (hr : s.Readable (s.reg 1) sz.bytes) :
    s.searchElement sz stops =
      .next ((s.searchedElement sz).endIteration (stops (s.peek (s.reg 1) sz) || s.reg 3 - 1 == 0)) :=
  s.load_eq _ sz _ hr

/-- A search writes no other register than R1 and R3, for R2 is given the value it has. -/
theorem State.searchedElement_frame (s : State) (sz : Size) : Frame [1, 3] [.c, .z] s (s.searchedElement sz) := by
  have hkept : s.reg 2 = (s.comparedElement sz).reg 2 := (s.reg_withPsw _ rfl 2).symm
  rw [State.searchedElement, hkept, State.setPointers_keep]
  exact ((Frame.withPsw (.of_setCompare s _ _) (by decide)).setReg (by simp) _).setReg (by simp) _

/-- One iteration of a search, which ends where `stops` holds of the element (R508, R509). -/
theorem State.searchElement_searches (s : State) (sz : Size) (stops : Word → Bool)
    (hr : s.Readable (s.reg 1) sz.bytes) :
    Reaches (s.searchElement sz stops) fun t =>
      (t.psw.c = true ↔ (s.reg 2).toNat ≤ (s.peek (s.reg 1) sz).toNat) ∧
      (t.psw.z = true ↔ s.peek (s.reg 1) sz = s.reg 2) ∧ t.reg 1 = s.reg 1 + sz.word ∧ t.reg 3 = s.reg 3 - 1 ∧
      t.pc = (if stops (s.peek (s.reg 1) sz) = true ∨ s.reg 3 = 1 then s.pc + 2 else s.pc) ∧
      Frame [1, 3] [.c, .z] s t := by
  obtain ⟨hreg1, -, hreg3⟩ : (s.searchedElement sz).reg 1 = s.reg 1 + sz.word ∧
    (s.searchedElement sz).reg 2 = s.reg 2 ∧ (s.searchedElement sz).reg 3 = s.reg 3 - 1 := State.reg_setPointers ..
  have hpc : (s.searchedElement sz).pc = s.pc := State.setPointers_pc ..
  have hpsw : (s.searchedElement sz).psw = s.psw.setCompare (s.peek (s.reg 1) sz) (s.reg 2) :=
    State.setPointers_psw ..
  refine ⟨_, s.searchElement_eq sz stops hr, ?_, ?_, ?_, ?_, ?_, (s.searchedElement_frame sz).endIteration _⟩
  · rw [State.endIteration_psw, hpsw, Psw.setCompare_c]
  · rw [State.endIteration_psw, hpsw, Psw.setCompare_z]
  · rw [State.reg_endIteration, hreg1]
  · rw [State.reg_endIteration, hreg3]
  · simp only [State.endIteration_pc, hpc, Bool.or_eq_true, last_iff]

/-- Settles O51: SCMPU by its comparison of two bytes, SUNTIL and SWHILE by the search they share. -/
theorem stringSearchesCompareElementByElement : Obligations.StringSearchesCompareElementByElement := by
  rintro s sz _ _ h3 rfl rfl
  refine ⟨?scmpu, fun hr => ⟨?suntil, ?swhile⟩⟩
  case scmpu =>
    rintro hr1 hr2 _ _ rfl rfl
    exact scmpu_compares h3 hr1 hr2
  case suntil =>
    have hsearch := s.searchElement_searches sz (fun v => v == s.reg 2) hr
    simp only [beq_iff_eq] at hsearch
    rwa [Completes, exec_suntil, execSuntil, s.unlessDone_eq _ h3]
  case swhile =>
    have hsearch := s.searchElement_searches sz (fun v => v != s.reg 2) hr
    simp only [bne_iff_ne] at hsearch
    rwa [Completes, exec_swhile, execSwhile, s.unlessDone_eq _ h3]

end Sys2Proof.Machine
end

section
/-! SMOVF run to its end: one step is one iteration, and the bytes it moves are those of the string it began with (R501,
R505). -/

namespace Sys2Proof.Machine

/-! ### Bytes copied in rising order -/

/-- t is s with the n bytes from `b` on copied to `a`, and no other byte changed. -/
structure Copied (a b : Word) (n : Nat) (s t : State) : Prop where
  bytes : ∀ k < n, t.byteAt (a + BitVec.ofNat 32 k) = s.byteAt (b + BitVec.ofNat 32 k)
  memory : SameMemoryBut a n s t

/-- The first byte at `a` is none of the n after it. -/
theorem ne_add_one_ofNat {a : Word} {n : Nat} (hn : n + 1 < 2 ^ 32) {k : Nat} (hk : k < n) :
    a ≠ a + 1 + BitVec.ofNat 32 k := by
  rw [← add_ofNat_succ]
  intro h
  have hzero : 0 = k + 1 := add_ofNat_inj (a := a) (by decide) (by omega) ((add_ofNat_zero a).trans h)
  omega

/-- The byte stored first is none of those still to be read: the distance is 0 or at least the count (R502). -/
theorem source_ne_destination {a b : Word} {n k : Nat} (hn : n + 1 < 2 ^ 32) (hd : a = b ∨ n + 1 ≤ (a - b).toNat)
    (hk : k < n) : b + 1 + BitVec.ofNat 32 k ≠ a := by
  rw [← add_ofNat_succ]
  rintro rfl
  have hdistance : (b + BitVec.ofNat 32 (k + 1) - b).toNat = k + 1 := by
    rw [add_sub_cancel_left, BitVec.toNat_ofNat, Nat.mod_eq_of_lt (by omega)]
  rcases hd with h | h
  · rw [h, BitVec.sub_self] at hdistance
    exact absurd hdistance (Nat.succ_ne_zero k).symm
  · omega

namespace Copied

variable {a b : Word} {n : Nat} {s t u : State}

theorem refl (a b : Word) (s : State) : Copied a b 0 s s := ⟨fun _ hk => absurd hk (by simp), fun _ _ => rfl⟩

/-- One byte copied, and then the n bytes after it. -/
theorem cons (hbyte : t.byteAt a = s.byteAt b) (hmem : SameMemoryBut a 1 s t) (h : Copied (a + 1) (b + 1) n t u)
    (hn : n + 1 < 2 ^ 32) (hd : a = b ∨ n + 1 ≤ (a - b).toNat) : Copied a b (n + 1) s u where
  bytes
    | 0, _ => by
      rw [add_ofNat_zero, add_ofNat_zero, h.memory a fun k hk => ne_add_one_ofNat hn hk, hbyte]
    | k + 1, hk => by
      have hkept : b + 1 + BitVec.ofNat 32 k ≠ a := source_ne_destination hn hd (Nat.lt_of_succ_lt_succ hk)
      rw [add_ofNat_succ, add_ofNat_succ, h.bytes k (Nat.lt_of_succ_lt_succ hk)]
      exact hmem _ (by simpa using hkept)
  memory c hc := by
    rw [h.memory c fun k hk => add_ofNat_succ a k ▸ hc (k + 1) (by omega)]
    exact hmem c fun k hk => hc k (by omega)

end Copied

/-! ### One step -/

theorem Ordinary.mem_wf {s t : State} {o : Out} (h : Ordinary s o) (ho : o = .next t)
    (hm : Memory.wf s.mem = true) : Memory.wf t.mem = true := by
  rcases h t ho with hk | ⟨u, e, pc, hu, -, rfl⟩
  · exact hk.memory hm
  · exact u.entered_mem_wf e pc (hu.keepsMode.memory hm)

theorem decode_smovf (p : Product) : decode p [0x7F, 0x8F] = .instr .smovf [] :=
  decodeInvertsEncode p .smovf [] rfl (installed_plain rfl rfl)

/-- What one iteration of SMOVF does to the byte, the pointers and the count (R505). -/
structure SmovfIteration (s t : State) : Prop where
  byte : t.byteAt (s.reg 1) = s.byteAt (s.reg 2)
  destination : t.reg 1 = s.reg 1 + 1
  source : t.reg 2 = s.reg 2 + 1
  count : t.reg 3 = s.reg 3 - 1
  pc : t.pc = if s.reg 3 = 1 then s.pc + 2 else s.pc
  psw : t.psw = s.psw
  memory : SameMemoryBut (s.reg 1) 1 s t
  wf : Memory.wf t.mem = true
  control : SameControl s.sample t

/-- A step of SMOVF at the PC whose ranges do not overlap is one iteration. -/
theorem step_smovf {s : State} (h : s.RunsAlone 0x7F 0x8F) (h3 : s.reg 3 ≠ 0)
    (hd : s.reg 1 = s.reg 2 ∨ (s.reg 3).toNat ≤ (s.reg 1 - s.reg 2).toNat) :
    Reaches (step s) (SmovfIteration s) := by
  have hstep := h.step_eq (decode_smovf _)
  obtain ⟨hmpu, -, -, -, hm, -, -⟩ := h
  have hexec : exec .smovf s.sample =
      s.sample.moveByte 1 fun _ t => .next (t.endIteration (s.sample.reg 3 - 1 == 0)) :=
    s.sample.unlessDone_moves _ h3 (overlaps_eq_false hd)
  obtain ⟨t, ht, hbyte, h1, h2, hcount, hpc, hframe⟩ := s.sample.moveByte_moves 1 hm
    (State.faultAt_of_noMpu hmpu ..) (State.faultAt_of_noMpu hmpu ..)
  exact ⟨t, hstep.trans (hexec.trans ht), hbyte, h1, h2, hcount, hpc, hframe.psw, hframe.memory,
    (exec_ordinary .smovf s.sample rfl).mem_wf (hexec.trans ht) hm, hframe.control⟩

/-- An iteration that is not the last leaves a state that runs alone, where it does not store to the instruction. -/
theorem SmovfIteration.runsAlone {s t : State} {b0 b1 : Byte} (hit : SmovfIteration s t) (h : s.RunsAlone b0 b1)
    (h3 : s.reg 3 ≠ 1) (h0 : s.reg 1 ≠ s.pc) (h1 : s.reg 1 ≠ s.pc + 1) : t.RunsAlone b0 b1 := by
  obtain ⟨hmpu, hinputs, hnmi, hwait, -, hb0, hb1⟩ := h.sample
  have hpc : t.pc = s.pc := hit.pc.trans (if_neg h3)
  have hcode {a : Word} (ha : s.reg 1 ≠ a) : t.byteAt a = s.byteAt a := hit.memory a (by simpa using ha.symm)
  exact ⟨hit.control.product ▸ hmpu, hit.control.inputs.trans hinputs, hit.control.nmiPending.trans hnmi,
    hit.control.waiting.trans hwait, hit.wf, hpc ▸ (hcode h0).trans hb0, hpc ▸ (hcode h1).trans hb1⟩

/-! ### Runs -/

/-- The state after the last iteration: the n bytes at R2 copied to R1, both pointers behind them (R505). -/
structure SmovfDone (n : Nat) (s t : State) : Prop where
  copied : Copied (s.reg 1) (s.reg 2) n s t
  destination : t.reg 1 = s.reg 1 + s.reg 3
  source : t.reg 2 = s.reg 2 + s.reg 3
  count : t.reg 3 = 0
  pc : t.pc = s.pc + 2
  psw : t.psw = s.psw

/-- An iteration with a count of 1 is the last one. -/
theorem SmovfIteration.done {s t : State} (h : SmovfIteration s t) (h3 : s.reg 3 = 1)
    (hd : s.reg 1 = s.reg 2 ∨ 1 ≤ (s.reg 1 - s.reg 2).toNat) : SmovfDone 1 s t where
  copied := .cons h.byte h.memory (.refl _ _ t) (by decide) hd
  destination := by rw [h.destination, h3]
  source := by rw [h.source, h3]
  count := by rw [h.count, h3]; rfl
  pc := h.pc.trans (if_pos h3)
  psw := h.psw

/-- An iteration before the last one, and then those of a state done. -/
theorem SmovfIteration.then_done {n : Nat} {s t u : State} (h : SmovfIteration s t) (hu : SmovfDone n t u)
    (h3 : s.reg 3 ≠ 1) (hn : n + 1 < 2 ^ 32) (hd : s.reg 1 = s.reg 2 ∨ n + 1 ≤ (s.reg 1 - s.reg 2).toNat) :
    SmovfDone (n + 1) s u where
  copied := .cons h.byte h.memory (h.destination ▸ h.source ▸ hu.copied) hn hd
  destination := by rw [hu.destination, h.destination, h.count]; ring
  source := by rw [hu.source, h.source, h.count]; ring
  count := hu.count
  pc := by rw [hu.pc, h.pc, if_neg h3]
  psw := hu.psw.trans h.psw

/-- SMOVF with a count of n + 1 ends after as many steps, where it stores to none of its own bytes. -/
theorem smovf_run (n : Nat) {s : State} (h : s.RunsAlone 0x7F 0x8F) (hn : (s.reg 3).toNat = n + 1)
    (hd : s.reg 1 = s.reg 2 ∨ n + 1 ≤ (s.reg 1 - s.reg 2).toNat)
    (hcode : ∀ k < n + 1, s.reg 1 + BitVec.ofNat 32 k ≠ s.pc ∧ s.reg 1 + BitVec.ofNat 32 k ≠ s.pc + 1) :
    Reaches (run (n + 1) s) (SmovfDone (n + 1) s) := by
  induction n generalizing s with
  | zero =>
    obtain ⟨t, hstep, hit⟩ := step_smovf h (by simp [← BitVec.toNat_inj, hn]) (hn ▸ hd)
    exact ⟨t, run_succ hstep 0, hit.done (BitVec.eq_of_toNat_eq hn) hd⟩
  | succ n ih =>
    obtain ⟨t, hstep, hit⟩ := step_smovf h (by simp [← BitVec.toNat_inj, hn]) (hn ▸ hd)
    have hlt : n + 1 + 1 < 2 ^ 32 := hn ▸ (s.reg 3).isLt
    have h1 : s.reg 3 ≠ 1 := fun h1 => by simp [h1] at hn
    have hpc : t.pc = s.pc := hit.pc.trans (if_neg h1)
    have hcount : (t.reg 3).toNat = n + 1 := by
      rw [hit.count]
      bv_omega
    have hdistance : t.reg 1 = t.reg 2 ∨ n + 1 ≤ (t.reg 1 - t.reg 2).toNat := by
      rw [hit.destination, hit.source, add_left_inj, add_sub_add_right_eq_sub]
      exact hd.imp_right (by omega)
    have hrest (k : Nat) (hk : k < n + 1) :
        t.reg 1 + BitVec.ofNat 32 k ≠ t.pc ∧ t.reg 1 + BitVec.ofNat 32 k ≠ t.pc + 1 := by
      rw [hit.destination, hpc, ← add_ofNat_succ]
      exact hcode (k + 1) (by omega)
    obtain ⟨hfirst, hsecond⟩ := hcode 0 (by omega)
    rw [add_ofNat_zero] at hfirst hsecond
    obtain ⟨u, hu, hdone⟩ := ih (hit.runsAlone h h1 hfirst hsecond) hcount hdistance hrest
    exact ⟨u, (run_succ hstep _).trans hu, hit.then_done hdone h1 hlt hd⟩

/-- Settles O54, by induction on the count. -/
theorem smovfCopiesTheWholeString : Obligations.SmovfCopiesTheWholeString := by
  intro s n halone hn hpos hd hcode
  obtain ⟨m, rfl⟩ := Nat.exists_eq_succ_of_ne_zero hpos.ne'
  obtain ⟨t, ht, hdone⟩ := smovf_run m halone hn.symm hd hcode
  exact ⟨t, ht, hdone.copied.bytes, hdone.copied.memory, hdone.destination, hdone.source, hdone.count, hdone.pc,
    hdone.psw⟩

end Sys2Proof.Machine
end

section
/-! The privileged instructions and the control registers in either mode (R530, R540 to R543, R550, R551, R556), and the
requests that end no wait (R608, R621, D13). -/

namespace Sys2Proof.Machine

/-! ### The privilege check -/

theorem State.privileged_of_supervisor {s : State} (h : s.psw.pm = false) (k : Out) : s.privileged k = k :=
  if_neg (Bool.eq_false_iff.1 h)

/-- An instruction that the privilege check cancels enters its exception. -/
theorem State.privileged_entersAt {s : State} (hm : Memory.wf s.mem = true) (hpm : s.psw.pm = true) (k : Out) :
    EntersAt (s.privileged k) 0xFFFFFFD0 s.psw.ipl s.pc s := by
  rw [State.privileged_of_user hpm]
  exact s.enter_entersAt .privileged s.pc hm

/-- Settles O13: each of the four is its privilege check, MVTIPL where it is installed. -/
theorem privilegedInstructionsTrapInUserMode : Obligations.PrivilegedInstructionsTrapInUserMode := by
  intro s hm hpm
  refine ⟨List.forall_mem_cons.2 ⟨?_, List.forall_mem_cons.2 ⟨?_, List.forall_mem_singleton.2 ?_⟩⟩, fun imm hinst => ?_⟩
  · exact State.privileged_entersAt hm hpm s.returnFromStack
  · exact State.privileged_entersAt hm hpm (.next s.returnFromFast)
  · exact State.privileged_entersAt hm hpm _
  · rw [exec_mvtipl, execMvtipl, if_pos hinst]
    exact State.privileged_entersAt hm hpm _

/-! ### The returns -/

/-- Raising the selected stack pointer leaves the other (R21, R22). -/
theorem State.setSp_sp_add (s : State) (n : Word) :
    (s.setSp (s.sp + n)).isp = (if s.psw.u then s.isp else s.isp + n) ∧
      (s.setSp (s.sp + n)).usp = if s.psw.u then s.usp + n else s.usp := by
  cases h : s.psw.u <;> simp [State.sp, h]

/-- Settles O17. RTE reads its two longwords from the stack selected before and raises that stack pointer alone. -/
theorem returnsReloadPcAndPsw : Obligations.ReturnsReloadPcAndPsw := by
  intro s hpm
  obtain ⟨hisp, husp⟩ := s.setSp_sp_add 8
  refine ⟨fun h0 h4 => ?_, ?_⟩
  · rw [Completes, exec_rte, execRte, State.privileged_of_supervisor hpm, s.returnFromStack_eq h0 h4]
    refine ⟨_, rfl, rfl, rfl, hisp, husp, s.setSp_regs _, s.setSp_fpsw _, s.setSp_acc _, rfl, ?_, ?_⟩
    · constructor <;> simp
    · exact fun a => s.byteAt_setReg 0 _ a
  · rw [Completes, exec_rtfi, execRtfi, State.privileged_of_supervisor hpm]
    exact ⟨_, rfl, rfl, rfl, Psw.ofWord_fits _ _, rfl, rfl, rfl, rfl, rfl, rfl, rfl, rfl, rfl, rfl, rfl, rfl, rfl,
      fun _ => rfl⟩

/-! ### Requests that are not accepted -/

/-- The level compared for the fast source: fast_interrupt_level in the product's width (R5, R622). -/
theorem maskLevel_fifteen (ipl3 : Bool) : (maskLevel ipl3 15).toNat = if ipl3 then 7 else 15 := by
  cases ipl3 <;> rfl

/-- A request is not acceptable with I = 0 or a level not above IPL (R615, R621). -/
theorem State.acceptable_eq_false_iff (s : State) (irq : Irq) (fast : Option Nat) :
    s.acceptable irq fast = false ↔ s.psw.i = false ∨ (s.requestLevel irq fast).toNat ≤ s.psw.ipl.toNat := by
  rw [State.acceptable, Bool.and_eq_false_iff, decide_eq_false_iff_not, BitVec.lt_def, not_lt]

/-- No request, or one that is not acceptable, leaves nothing accepted. -/
theorem State.accepted_eq_none {s : State} {inp : Input}
    (h : ∀ irq, inp.request = some irq → s.acceptable irq inp.fastSource = false) : s.accepted inp = none := by
  unfold State.accepted
  split
  · exact if_neg (Bool.eq_false_iff.1 (h _ ‹_›))
  · rfl

/-- A step that nothing disturbs goes on waiting or runs the instruction at the PC (R608). -/
theorem State.Undisturbed.step_eq {s : State} (h : s.Undisturbed) :
    step s = if s.waiting then .next s.sample else s.sample.runInstr := by
  simp only [step, h.reset, h.nmi, h.request, Bool.false_eq_true, if_false]
  rfl

/-- Settles O10: masked requests leave the step undisturbed. -/
theorem waitingEndsOnlyByInputs : Obligations.WaitingEndsOnlyByInputs := by
  refine ⟨fun s hpm => ?_, fun s hreset hnmi hmasked => ?_⟩
  · rw [Completes, exec_wait, execWait, State.privileged_of_supervisor hpm]
    exact ⟨_, rfl, rfl, rfl, rfl, rfl, rfl, rfl, rfl, rfl, rfl, rfl, rfl, rfl, rfl, rfl, rfl, rfl, rfl, fun _ => rfl⟩
  · have hnone : s.sample.accepted s.input = none := State.accepted_eq_none fun irq hirq => by
      rw [State.acceptable_eq_false_iff, State.requestLevel]
      refine (hmasked irq hirq).imp id ?_
      rintro (⟨hfast, hle⟩ | ⟨hfast, hle⟩)
      · rwa [if_neg hfast]
      · rwa [if_pos hfast, maskLevel_fifteen]
    have hstep := State.Undisturbed.step_eq ⟨hreset, hnmi, hnone⟩
    exact ⟨fun hw => hstep.trans (if_pos hw), fun hw => hstep.trans (if_neg (Bool.eq_false_iff.1 hw))⟩

/-! ### Control registers -/

/-- The reserved bits of FPSW read 0 (R40, D3). -/
theorem Fpsw.toWord_reserved (f : Fpsw) {j : Nat} (h : j ∈ [9, 15, 16, 17, 18, 19, 20, 21, 22, 23, 24, 25]) :
    f.toWord.getLsbD j = false := by
  simp only [Fpsw.toWord, BitVec.getLsbD_append]
  fin_cases h <;> simp

/-- RM, DN, the enable bits and the sticky flags take what is written (R42, R46). -/
theorem Fpsw.toWord_write_taken (f : Fpsw) (v : Word) {j : Nat}
    (h : j ∈ [0, 1, 8, 10, 11, 12, 13, 14, 26, 27, 28, 29, 30]) :
    (f.write v).toWord.getLsbD j = v.getLsbD j := by
  simp only [Fpsw.toWord, Fpsw.write, BitVec.getLsbD_append]
  fin_cases h <;> simp

/-- A cause flag is cleared by 0 and kept by 1 (R42, R46). -/
theorem Fpsw.toWord_write_cause (f : Fpsw) (v : Word) {j : Nat} (h : j ∈ [2, 3, 4, 5, 6, 7]) :
    (f.write v).toWord.getLsbD j = (f.toWord.getLsbD j && v.getLsbD j) := by
  simp only [Fpsw.toWord, Fpsw.write, BitVec.getLsbD_append]
  fin_cases h <;> simp

/-- `fpsw_write` bit by bit, but for FS, which is computed (R42, R45, R46). -/
theorem Fpsw.toWord_write (f : Fpsw) (v : Word) {j : Nat} (hj : j < 31) :
    (f.write v).toWord.getLsbD j =
      if j ∈ [0, 1, 8, 10, 11, 12, 13, 14, 26, 27, 28, 29, 30] then v.getLsbD j
      else if j ∈ [2, 3, 4, 5, 6, 7] then f.toWord.getLsbD j && v.getLsbD j else false := by
  split_ifs with htaken hcause
  · exact f.toWord_write_taken v htaken
  · exact f.toWord_write_cause v hcause
  · refine Fpsw.toWord_reserved _ ?_
    simp only [List.mem_cons, List.not_mem_nil, or_false] at htaken hcause ⊢
    omega

/-- Settles O58: MVTC is `ctrl_write` and MVFC is `ctrl_read`, each with the PC moved on. -/
theorem controlRegistersMove : Obligations.ControlRegistersMove := by
  intro s rs rd imm cr
  refine ⟨fun _ => ⟨⟨_, rfl, s.ctrlWrite_written cr _ 3⟩, ⟨_, rfl, s.ctrlWrite_written cr _ _⟩⟩, ?_, ?_⟩
  · -- the statement writes `ctrl_read` out, so each register's value is its by definition
    have hread := s.assign_wrote rd (s.ctrlRead cr) 3
    cases cr <;> exact hread
  · rintro _ rfl hfpu
    refine ⟨_, rfl, fun j hj => ?_⟩
    rw [(s.ctrlWrite_written .fpsw (s.reg rs) 3).fpsw, if_pos ⟨rfl, hfpu⟩]
    exact s.fpsw.toWord_write _ hj

end Sys2Proof.Machine
end

section
/-! What reset, the NMI, the requests and the fetch make of a step (R606, R608, R611 to R615, R621, R622, R670, R671),
and returns from an entry (R550, R551, R607). -/

namespace Sys2Proof.Machine

/-! ### Words of the spec's examples -/

/-- Settles O4: the decoder runs on each word. -/
theorem exampleWordsDecode : Obligations.ExampleWordsDecode := by
  unfold Obligations.ExampleWordsDecode
  decide

/-! ### Fetching -/

/-- The instruction at the PC runs on the state that fetched it. -/
theorem State.runInstr_of_instr {s : State} {i : Instr} (h : s.fetch = .instr i) : s.runInstr = exec i s := by
  rw [State.runInstr, h]

theorem State.runInstr_of_undefined {s : State} (h : s.fetch = .undefined) : s.runInstr = s.raise .undefined := by
  rw [State.runInstr, h]

theorem State.runInstr_of_fault {s : State} (h : s.fetch = .fault) : s.runInstr = s.raise .access := by
  rw [State.runInstr, h]

/-- A step that nothing disturbs and no wait stops runs the instruction at the PC (R608). -/
theorem State.Undisturbed.step_runs {s : State} (h : s.Undisturbed) (hw : s.waiting = false) :
    step s = s.sample.runInstr := h.step_eq.trans (if_neg (Bool.eq_false_iff.1 hw))

/-- Settles O5. -/
theorem stepRunsDecodedInstruction : Obligations.StepRunsDecodedInstruction := by
  intro s i n hund hw hn hdec hf
  have hfetch : s.sample.fetch = .instr i := State.fetch_eq (s := s.sample) hn hdec hf
  exact ⟨(hund.step_runs hw).trans (State.runInstr_of_instr hfetch), rfl⟩

/-- Bytes too short to tell are fetched past, one by one (R611). -/
theorem State.fetchFrom_of_short {s : State} {n : Nat} (hshort : ∀ k < n, decode s.product (s.codeBytes k) = .short)
    (hf : ∀ k < n, s.faultAt (s.after k) 1 .fetch = false) (m : Nat) :
    s.fetchFrom (m + n) [] = s.fetchFrom m (s.codeBytes n) := by
  induction n generalizing m with
  | zero => rfl
  | succ n ih =>
    have hprev := ih (fun k hk => hshort k (by omega)) (fun k hk => hf k (by omega)) (m + 1)
    rw [show m + (n + 1) = m + 1 + n by omega, hprev, State.fetchFrom, hshort n (by omega)]
    simp only [State.codeBytes_length, hf n (by omega), Bool.false_eq_true, if_false, s.codeBytes_succ]

/-- What the first bytes at the PC decide stands when more of them are read. -/
theorem State.decode_codeBytes_of_le {s : State} {p : Product} {k n : Nat} (hk : k ≤ n)
    (h : decode p (s.codeBytes k) ≠ .short) :
    ∃ x, decode p (s.codeBytes n) = (decode p (s.codeBytes k)).more x := by
  obtain ⟨x, hx, -⟩ := s.codeBytes_add k (n - k)
  rw [show k + (n - k) = n by omega] at hx
  exact ⟨x, hx ▸ decode_append p _ x h⟩

/-- Bytes that are no instruction, as far as they can be fetched, are fetched as none: the first bytes that decide
are undefined already (R606, R611). -/
theorem State.fetch_undefined {s : State} {n : Nat} (hn : n ≤ 8) {why : Reject}
    (h : decode s.product (s.codeBytes n) = .undefined why)
    (hf : ∀ k < n, s.faultAt (s.after k) 1 .fetch = false) : s.fetch = .undefined := by
  have hdecides : ∃ k, decode s.product (s.codeBytes k) ≠ .short := ⟨n, by simp [h]⟩
  obtain ⟨k, hk, hmin⟩ : ∃ k, decode s.product (s.codeBytes k) ≠ .short ∧
      ∀ j < k, decode s.product (s.codeBytes j) = .short :=
    ⟨Nat.find hdecides, Nat.find_spec hdecides, fun j hj => not_not.1 (Nat.find_min hdecides hj)⟩
  have hkn : k ≤ n := not_lt.1 fun hlt => by simp [hmin n hlt] at h
  obtain ⟨x, hx⟩ := State.decode_codeBytes_of_le hkn hk
  have hrun := State.fetchFrom_of_short hmin (fun j hj => hf j (by omega)) (8 - k + 1)
  rw [show 8 - k + 1 + k = 9 by omega] at hrun
  rw [State.fetch, hrun, State.fetchFrom]
  cases hd : decode s.product (s.codeBytes k) with
  | instr i r => simp [hd, h, Decoded.more] at hx
  | undefined w => rfl
  | short => exact absurd hd hk

/-- A byte that the bytes before it leave needed, and that may not be fetched, faults (R611, R612). -/
theorem State.fetch_fault {s : State} {n : Nat} (hn : n ≤ 8) (h : decode s.product (s.codeBytes n) = .short)
    (hf : ∀ k < n, s.faultAt (s.after k) 1 .fetch = false) (hfault : s.faultAt (s.after n) 1 .fetch = true) :
    s.fetch = .fault := by
  have hshort (k : Nat) (hk : k < n) : decode s.product (s.codeBytes k) = .short := by
    by_contra hne
    obtain ⟨x, hx⟩ := State.decode_codeBytes_of_le hk.le hne
    rw [h] at hx
    cases hd : decode s.product (s.codeBytes k) with
    | short => exact hne hd
    | instr i r | undefined w => simp [hd, Decoded.more] at hx
  have hrun := State.fetchFrom_of_short hshort hf (8 - n + 1)
  rw [show 8 - n + 1 + n = 9 by omega] at hrun
  rw [State.fetch, hrun, State.fetchFrom, h]
  simp only [State.codeBytes_length, hfault, if_true]

/-- Settles O15. -/
theorem badFetchesTakeTheirException : Obligations.BadFetchesTakeTheirException := by
  intro s n hm hund hw hn hf
  refine ⟨fun why hdec => ?_, fun hdec hfault => ?_⟩
  · have hfetch : s.sample.fetch = .undefined := State.fetch_undefined (s := s.sample) hn hdec hf
    rw [hund.step_runs hw, State.runInstr_of_undefined hfetch]
    exact s.sample.enter_entersAt .undefined s.pc hm
  · have hfetch : s.sample.fetch = .fault := State.fetch_fault (s := s.sample) hn hdec hf hfault
    rw [hund.step_runs hw, State.runInstr_of_fault hfetch]
    exact s.sample.enter_entersAt .access s.pc hm

/-! ### Reset -/

/-- Settles O7. -/
theorem resetStateIsLegal : Obligations.ResetStateIsLegal where
  memory := State.reset_mem_wf
  psw := by decide
  bpsw := by decide
  userStack := nofun

/-- The reset vector is read in supervisor mode: reset goes on where that read does not fault (R671). -/
theorem State.doReset_reaches {s : State} (h : s.product.memFault 0xFFFFFFFC 4 .read false = false) :
    ∃ t, s.doReset = .next t := ⟨_, if_neg (Bool.eq_false_iff.1 h)⟩

theorem State.doReset_stuck {s : State} (h : s.product.memFault 0xFFFFFFFC 4 .read false = true) :
    s.doReset = .fault .stuckReset := if_pos h

/-- Settles O8: reset is the first thing a step asks for, and all it states is what `doReset` leaves. -/
theorem resetInitialisesTheMachine : Obligations.ResetInitialisesTheMachine := by
  intro s hreset
  have hstep : step s = s.sample.doReset := if_pos hreset
  rw [hstep]
  refine ⟨fun hok => ?_, State.doReset_stuck (s := s.sample)⟩
  obtain ⟨t, ht⟩ := State.doReset_reaches (s := s.sample) hok
  obtain ⟨hpsw, hfpsw, hisp, husp, hmem, hwait, hnmi, hprod, hpc, hrmpa⟩ := State.doReset_next ht
  have hsp : t.reg 0 = t.isp := if_neg (by simp [hpsw, Psw.zero])
  exact ⟨t, ht, by rw [hpsw]; decide, by rw [hfpsw]; decide, hisp, husp, hwait, hnmi, hpc, hsp, hprod, hrmpa,
    fun a => by rw [State.byteAt, hmem]; rfl⟩

/-! ### NMI and requests -/

/-- A level that is in the product's width already stays as it is (R32). -/
theorem maskLevel_maskLevel (ipl3 : Bool) (l : BitVec 4) : maskLevel ipl3 (maskLevel ipl3 l) = maskLevel ipl3 l := by
  cases ipl3
  · rfl
  · simp [maskLevel, BitVec.and_assoc]

/-- A latched NMI goes before a request, the wait and the instruction (R608, R614). -/
theorem step_nmi {s : State} (hreset : s.input.reset = false) (hnmi : s.sample.nmiPending = true) :
    step s = s.sample.acceptNmi := by
  simp only [step, hreset, hnmi, Bool.false_eq_true, if_false, if_true]

/-- An acceptable request is accepted, whether the machine waits or not (R608, R621). -/
theorem step_request {s : State} {irq : Irq} (hreset : s.input.reset = false) (hnmi : s.sample.nmiPending = false)
    (hirq : s.input.request = some irq) (hacc : s.sample.acceptable irq s.input.fastSource = true) :
    step s = s.sample.acceptIrq irq s.input.fastSource := by
  have haccepted : s.sample.accepted s.input = some irq := by simp [State.accepted, hirq, hacc]
  simp only [step, hreset, hnmi, haccepted, Bool.false_eq_true, if_false]

/-- A request is acceptable with I = 1 and a level above IPL (R615, R621). -/
theorem State.acceptable_of_lt {s : State} {irq : Irq} {fast : Option Nat} (hi : s.psw.i = true)
    (hlt : s.psw.ipl < s.requestLevel irq fast) : s.acceptable irq fast = true := by
  simp [State.acceptable, hi, hlt]

/-- A request of any other source enters through its vector of the relocatable table (R608, R615). -/
theorem State.acceptIrq_entersAt {s : State} (hm : Memory.wf s.mem = true) {irq : Irq} {fast : Option Nat}
    (hfast : fast ≠ some irq.source) :
    EntersAt (s.acceptIrq irq fast) (s.intb + 4 * irq.vector.setWidth 32) (maskLevel s.product.ipl3 irq.level) s.pc
      { s with ack := some irq } := by
  have hlevel : s.requestLevel irq fast = maskLevel s.product.ipl3 irq.level := by rw [State.requestLevel, if_neg hfast]
  have henter :=
    State.enter_entersAt { s with ack := some irq } (.interrupt irq.vector (s.requestLevel irq fast)) s.pc hm
  rw [State.entryIpl, hlevel, maskLevel_maskLevel] at henter
  rw [State.acceptIrq, if_neg hfast, hlevel]
  exact henter

/-- A request of the fast source goes to FINTV with PSW and PC in BPSW and BPC (R622). -/
theorem State.acceptIrq_fast {s : State} {irq : Irq} {fast : Option Nat} (hfast : fast = some irq.source) :
    s.acceptIrq irq fast =
      .next (State.enterFast { s with ack := some irq } (if s.product.ipl3 then 7 else 15)) := by
  have hlevel : s.requestLevel irq fast = if s.product.ipl3 then 7 else 15 := by
    rw [State.requestLevel, if_pos hfast]
    exact s.entryIpl_nmi
  rw [State.acceptIrq, if_pos hfast, hlevel]

/-- Settles O9. -/
theorem acceptableInputsAreEntered : Obligations.AcceptableInputsAreEntered := by
  intro s hm hreset
  refine ⟨fun hnmi => ?_, fun hpend hnmi hi irq hirq => ?_⟩
  · rw [step_nmi hreset (by simpa using hnmi), ← s.entryIpl_nmi]
    exact State.enter_entersAt { s.sample with nmiPending := false } .nmi s.pc hm
  have hnone : s.sample.nmiPending = false := by simp [hpend, hnmi]
  refine ⟨fun level hlevel hfast hlt => ?_, fun hfast hlt => ?_⟩
  · subst hlevel
    have hacc : s.sample.acceptable irq s.input.fastSource = true :=
      State.acceptable_of_lt hi (by rwa [State.requestLevel, if_neg hfast])
    rw [step_request hreset hnone hirq hacc]
    exact State.acceptIrq_entersAt (s := s.sample) hm hfast
  · have hacc : s.sample.acceptable irq s.input.fastSource = true :=
      State.acceptable_of_lt hi (by
        rw [State.requestLevel, if_pos hfast, BitVec.lt_def, maskLevel_fifteen]
        exact hlt)
    have hmask : maskLevel s.product.ipl3 (if s.product.ipl3 then 7 else 15) = if s.product.ipl3 then 7 else 15 := by
      rw [← s.entryIpl_nmi]
      exact maskLevel_maskLevel _ 15
    rw [step_request hreset hnone hirq hacc, State.acceptIrq_fast hfast]
    exact ⟨_, rfl, rfl, rfl, rfl, rfl, rfl, congrArg (fun l => { s.psw.entered with ipl := l }) hmask, rfl, rfl, rfl,
      rfl, rfl, rfl, rfl, rfl, rfl, rfl⟩

/-! ### Entry and return -/

/-- A level in the product's width is kept whole (R32). -/
theorem maskLevel_of_le {ipl3 : Bool} {l : BitVec 4} (h : ipl3 = true → l.toNat ≤ 7) : maskLevel ipl3 l = l := by
  refine BitVec.eq_of_toNat_eq ((maskLevel_toNat ipl3 l).trans (Nat.mod_eq_of_lt ?_))
  split
  · exact Nat.lt_succ_of_le (h ‹_›)
  · exact l.isLt

theorem Psw.toWord_ipl (p : Psw) : p.toWord.extractLsb' 24 4 = p.ipl := by
  ext j hj
  simp only [Psw.toWord, BitVec.getElem_extractLsb', BitVec.getLsbD_append]
  interval_cases j <;> simp

/-- The fields of a PSW are those of its word, where its IPL fits the product (R30). -/
theorem Psw.ofWord_toWord {ipl3 : Bool} {p : Psw} (h : p.Fits ipl3) : Psw.ofWord ipl3 p.toWord = p := by
  rw [Psw.ofWord, p.toWord_ipl, maskLevel_of_le h]
  simp only [Psw.toWord, BitVec.getLsbD_append]
  simp

/-- The word of a PSW that a legal state can hold gives that PSW back on a return (R35). -/
theorem Psw.restore_toWord {ipl3 : Bool} {p : Psw} (hfits : p.Fits ipl3) (huser : p.pm = true → p.u = true) :
    Psw.restore ipl3 p.toWord = p := by
  have hu : (p.u || p.pm) = p.u := Bool.or_eq_left_iff_imp.2 huser
  simp only [Psw.restore, Psw.ofWord_toWord hfits, hu]

/-- Settles O18: the return reads what the entry has saved, and the saved word gives the PSW back. -/
theorem returnUndoesEntry : Obligations.ReturnUndoesEntry := by
  intro s t savedPc hs
  have hpsw : Psw.restore s.product.ipl3 s.psw.toWord = s.psw := Psw.restore_toWord hs.psw hs.userStack
  refine ⟨fun e he hpc hsaved => ?_, fun level hlevel => ?_⟩
  · obtain rfl := State.enter_next he
    have hu : (s.entered e savedPc).psw.u = false := by simp
    have hsp : (s.entered e savedPc).reg 0 = s.isp - 8 := by simp [State.reg_zero, State.sp]
    have hsp4 : s.isp - 8 + 4 = s.isp - 4 := by bv_omega
    obtain ⟨hrte, -⟩ := returnsReloadPcAndPsw (s.entered e savedPc) (by simp)
    simp only [hsp, hsp4] at hrte
    obtain ⟨r, hr, hrpc, hrpsw, hrisp, hrusp, hrregs, hrfpsw, hracc, -, hrctl, hrmem⟩ := hrte hpc hsaved
    refine ⟨r, hr, hrpc.trans (s.entered_savedPc e savedPc hs.memory), ?_, ?_, ?_,
      hrregs.trans (s.entered_regs e savedPc), hrfpsw.trans (s.entered_fpsw e savedPc),
      hracc.trans (s.entered_acc e savedPc), hrctl.intb.trans (s.entered_intb e savedPc),
      hrctl.bpc.trans (s.entered_bpc e savedPc), hrctl.bpsw.trans (s.entered_bpsw e savedPc),
      hrctl.fintv.trans (s.entered_fintv e savedPc),
      fun a ha => (hrmem a).trans (s.entered_sameMemoryBut e savedPc a ha)⟩
    · rw [hrpsw, s.entered_savedPsw e savedPc hs.memory, State.entered_product, hpsw]
    · simpa [hu] using hrisp
    · simpa [hu] using hrusp
  · subst hlevel
    obtain ⟨-, r, hr, hrpc, hrpsw, -, hrisp, hrusp, hrregs, hrfpsw, hracc, hrintb, hrfintv, -, -, -, -, -, -,
      hrmem⟩ :=
      returnsReloadPcAndPsw (s.enterFast level) rfl
    exact ⟨r, hr, hrpc, hrpsw.trans hpsw, hrisp, hrusp, hrregs, hrfpsw, hracc, hrintb, hrfintv, hrmem⟩

end Sys2Proof.Machine
end

section
/-! The DSP instructions: products and parts of ACC, and its rounding (R570 to R579). -/

namespace Sys2Proof.Machine

/-! ### Halves and parts as numbers -/

theorem highHalf_eq (v : Word) : highHalf v = v.toInt / 2 ^ 16 := by
  rw [highHalf, BitVec.toInt_eq_toNat_cond, BitVec.toInt_eq_toNat_cond, BitVec.extractLsb'_toNat,
    Nat.shiftRight_eq_div_pow]
  omega

theorem lowHalf_eq (v : Word) : lowHalf v = (v.setWidth 16).toInt := rfl

theorem acc_high_toNat (v : BitVec 64) : (v.extractLsb' 32 32).toNat = v.toNat / 2 ^ 32 := by
  rw [BitVec.extractLsb'_toNat, Nat.shiftRight_eq_div_pow]
  omega

theorem acc_middle_toNat (v : BitVec 64) : (v.extractLsb' 16 32).toNat = v.toNat / 2 ^ 16 % 2 ^ 32 := by
  rw [BitVec.extractLsb'_toNat, Nat.shiftRight_eq_div_pow]

theorem acc_low_toNat (v : BitVec 64) : (v.extractLsb' 0 32).toNat = v.toNat % 2 ^ 32 := by
  rw [BitVec.extractLsb'_toNat, Nat.shiftRight_zero]

/-- The product at b16 is the product times 2^16, modulo 2^64. -/
theorem alignedProduct_eq (a b : Int) : alignedProduct a b = BitVec.ofInt 64 (a * b * 2 ^ 16) := by
  rw [alignedProduct, BitVec.shiftLeft_eq_mul_twoPow, BitVec.ofInt_mul (a * b)]
  rfl

/-- The product of two signed halves fits ACC at b16. -/
theorem alignedProduct_toInt (a b : BitVec 16) :
    (alignedProduct a.toInt b.toInt).toInt = a.toInt * b.toInt * 2 ^ 16 := by
  have habs : |a.toInt * b.toInt| ≤ 2 ^ 15 * 2 ^ 15 := by
    rw [abs_mul]
    exact mul_le_mul (abs_le.2 ⟨a.le_toInt, a.toInt_lt.le⟩) (abs_le.2 ⟨b.le_toInt, b.toInt_lt.le⟩) (abs_nonneg _)
      (by norm_num)
  obtain ⟨hlo, hhi⟩ := abs_le.1 habs
  rw [alignedProduct_eq, BitVec.toInt_ofInt_eq_self (by decide)] <;> omega

/-! ### Writing ACC -/

/-- A write of ACC changes nothing else but the PC. -/
theorem State.assignAcc_reaches (s : State) (v : BitVec 64) :
    Reaches (s.assignAcc v) fun t => t.acc = v ∧ t.pc = s.after 3 ∧ FrameAcc [] [] s t :=
  ⟨_, rfl, rfl, rfl, ⟨fun _ _ => rfl, rfl⟩, .of_eq rfl, ((SameControl.refl s).withFree v s.fresh).goto _, rfl,
    fun _ => rfl⟩

/-- A property of the value that ACC takes is one of ACC afterwards. -/
theorem State.assignAcc_of (s : State) {v : BitVec 64} {P : BitVec 64 → Prop} (h : P v) :
    Reaches (s.assignAcc v) fun t => P t.acc ∧ t.pc = s.after 3 ∧ FrameAcc [] [] s t :=
  (s.assignAcc_reaches v).imp fun _ ⟨hacc, hrest⟩ => ⟨hacc ▸ h, hrest⟩

/-- Settles O59: each form is a write of ACC or of a register, and its value is one of the numbers above. -/
theorem accumulatorProductsAndParts : Obligations.AccumulatorProductsAndParts := by
  rintro s rs rs2 r _ _ rfl rfl
  simp only [← highHalf_eq, ← lowHalf_eq]
  refine ⟨s.assignAcc_of (P := fun v => v.toInt = _) (alignedProduct_toInt _ _),
    s.assignAcc_of (P := fun v => v.toInt = _) (alignedProduct_toInt _ _),
    s.assignAcc_of (P := fun v => v = _) (congrArg (s.acc + ·) (alignedProduct_eq _ _)),
    s.assignAcc_of (P := fun v => v = _) (congrArg (s.acc + ·) (alignedProduct_eq _ _)), ?_, ?_,
    s.assignAcc_of (P := fun v => v.toNat = _) ?_, s.assignAcc_of (P := fun v => v.toNat = _) ?_⟩
  · exact (s.assign_wrote r (s.acc.extractLsb' 32 32) 3).imp fun _ hwrote => ⟨_, acc_high_toNat s.acc, hwrote⟩
  · exact (s.assign_wrote r (s.acc.extractLsb' 16 32) 3).imp fun _ hwrote => ⟨_, acc_middle_toNat s.acc, hwrote⟩
  · rw [toNat_append_eq, acc_low_toNat]
  · rw [toNat_append_eq, acc_high_toNat]

/-! ### RACW -/

/-- Clearing the low half rounds down to a multiple of 2^32. -/
theorem toInt_and_highMask (v : BitVec 64) : (v &&& 0xFFFFFFFF00000000).toInt = v.toInt / 2 ^ 32 * 2 ^ 32 := by
  have hparts : v &&& 0xFFFFFFFF00000000 = v.extractLsb' 32 32 ++ 0#32 := by
    have hv : v = v.extractLsb' 32 32 ++ v.extractLsb' 0 32 := by
      rw [BitVec.extractLsb'_append_extractLsb'_eq_extractLsb' (by rfl), BitVec.extractLsb'_eq_self]
    calc v &&& 0xFFFFFFFF00000000
        = (v.extractLsb' 32 32 ++ v.extractLsb' 0 32) &&& (BitVec.allOnes 32 ++ 0#32) :=
          congrArg (· &&& 0xFFFFFFFF00000000) hv
      _ = v.extractLsb' 32 32 ++ 0#32 := by rw [BitVec.and_append, BitVec.and_allOnes, BitVec.and_zero]
  rw [hparts, BitVec.toInt_eq_toNat_cond, BitVec.toInt_eq_toNat_cond, toNat_append_eq, acc_high_toNat]
  simp only [BitVec.toNat_ofNat]
  omega

theorem racwResult_above {x : Int} (h : 0x7FFF * 2 ^ 32 < x) : (racwResult x).toInt = 0x7FFF * 2 ^ 32 := by
  rw [racwResult, if_pos (by omega)]
  decide

theorem racwResult_below {x : Int} (h : x < -0x8000 * 2 ^ 32) : (racwResult x).toInt = -0x8000 * 2 ^ 32 := by
  rw [racwResult, if_neg (by omega), if_pos (by omega)]
  decide

theorem racwResult_within {x : Int} (hhi : x ≤ 0x7FFF * 2 ^ 32) (hlo : -0x8000 * 2 ^ 32 ≤ x) :
    (racwResult x).toInt = x / 2 ^ 32 * 2 ^ 32 := by
  rw [racwResult, if_neg (by omega), if_neg (by omega), toInt_and_highMask,
    BitVec.toInt_ofInt_eq_self (by decide) (by omega) (by omega)]

/-- Settles O60, by where the rounded sum lies. -/
theorem racwRoundsAndSaturates : Obligations.RacwRoundsAndSaturates := by
  rintro s imm _ rfl
  exact (s.assignAcc_reaches (racwResult (racwRounded s.acc (imm.toNat + 1)))).imp fun _ ⟨hacc, hrest⟩ =>
    ⟨hacc ▸ racwResult_within, hacc ▸ racwResult_above, hacc ▸ racwResult_below, hrest⟩

end Sys2Proof.Machine
end
